-- ==== Sys2Proof/Word.lean ====
section
/-! DEFINITION. The two word types of the core: bytes on the 8 data lines and 16-bit words on the 16 address lines
(spec/00_scope.md R7, R9). -/

namespace Sys2Proof

/-- A byte: 8 data lines (R7). -/
abbrev Byte := BitVec 8

/-- A 16-bit word: an address, or a register pair (R7). -/
abbrev Word := BitVec 16

end Sys2Proof
end

