-- ==== Sys2Proof/Config.lean ====
section
/-! DEFINITION. What an implementation fixes, and the free values: the spec's named parameters (spec/00_scope.md R8) and the
values it leaves to the host (R14) or leaves unspecified (spec/60_exceptions.md R401). -/

namespace Sys2Proof.Config

/-- The parameter `IM0_NON_RST` of R8: what the core does in interrupt mode 0 when the acknowledged byte is not an RST opcode.
The spec gives this parameter one value. -/
inductive Im0NonRst where
  /-- The model refuses (R382, D13). -/
  | refuse
deriving DecidableEq, Repr

/-- The default of `IM0_NON_RST` (R8, R382). -/
def im0NonRst : Im0NonRst := .refuse

/-- FREE VALUE. The `n`-th byte a read cycle takes from the data bus where the state lists no byte for it: an I/O read or an
interrupt acknowledge whose device is the host's (R14, D28). Nothing constrains it (log entry 3). -/
opaque freeByte : Nat → Byte

/-- FREE VALUE. The words a register inspection returns where the spec leaves the registers unspecified: in Reset, and in the
middle of an instruction (R401, D22; log entry 12). -/
opaque freeWord : Nat → Word

/-- The bytes a decode may look at beyond those the host has scripted: 2^16 prefix bytes and the longest instruction after
them (log entry 9). -/
def chainWindow : Nat := 65540

end Sys2Proof.Config
end

