-- ==== Sys2Proof/Machine/Bits.lean ====
section
/-! DEFINITION. Bit fields, byte order and sign extension (spec/00_scope.md R9, spec/20_memory.md R83). -/

namespace Sys2Proof

/-- `a:b` of R9: the word with high byte `hi` and low byte `lo`. -/
def mk16 (hi lo : Byte) : Word := hi ++ lo

/-- `high(w) = w[15:8]` (R9). -/
def hi8 (w : Word) : Byte := w.extractLsb' 8 8

/-- `low(w) = w[7:0]` (R9). -/
def lo8 (w : Word) : Byte := w.extractLsb' 0 8

/-- `sext_16(d)` (R9). -/
def sext16 (d : Byte) : Word := d.signExtend 16

/-- `v[3:0]`, as a number. -/
def lowNibble (v : Byte) : Nat := v.toNat % 16

/-- `w[11:0]`, as a number. -/
def low12 (w : Word) : Nat := w.toNat % 4096

/-- The carry bit as the number 0 or 1. -/
def bit01 (c : Bool) : Nat := if c then 1 else 0

/-- The 8-bit mask `1 << b` of BIT, RES and SET (spec/44_cb.md R308 to R310). -/
def bitMask (b : BitVec 3) : Byte := (1 : Byte) <<< b.toNat

/-- The refresh increment of R29: bit 7 is kept, the low seven bits count modulo 128. -/
def refreshInc (r : Byte) : Byte := (r &&& 0x80) ||| ((r + 1) &&& 0x7F)

end Sys2Proof
end

