-- ==== Sys2Proof/Syntax.lean ====
section
/-! DEFINITION. The instruction set as syntax: one constructor of `Instr` per row of spec/opcode_table.json, in the table's
order, over the operand tables of spec/30_encoding.md R145 to R149. `XY` stands for IX or IY (R141). -/

namespace Sys2Proof

/-- The index register a DD or FD prefix selects (R141). -/
inductive XY where
  | ix | iy
deriving DecidableEq, Repr

/-- The half of an index register that stands for H or L under a prefix (R146). -/
inductive Half where
  | hi | lo
deriving DecidableEq, Repr

/-- The 8-bit operand table `r8[n]` without code 6, the memory operand (R145). -/
inductive R8 where
  | b | c | d | e | h | l | a
deriving DecidableEq, Repr

/-- The 8-bit operand table under an index modifier, without code 6 (R146): `xh` and `xl` are the halves of IX or IY. -/
inductive R8X where
  | b | c | d | e | xh | xl | a
deriving DecidableEq, Repr

/-- The pair table `rp[p]` (R147). Under a prefix `hl` stands for IX or IY. -/
inductive RP where
  | bc | de | hl | sp
deriving DecidableEq, Repr

/-- The pair table `rp2[p]` of PUSH and POP (R147). -/
inductive RP2 where
  | bc | de | hl | af
deriving DecidableEq, Repr

/-- The pairs that LD (rr),A and LD A,(rr) may name (R207, R210). -/
inductive BcDe where
  | bc | de
deriving DecidableEq, Repr

/-- The condition table `cc[y]` (R148). -/
inductive Cond where
  | nz | z | nc | c | po | pe | p | m
deriving DecidableEq, Repr

/-- The four conditions JR cc may name (R148, R204). -/
inductive JrCond where
  | nz | z | nc | c
deriving DecidableEq, Repr

/-- The ALU selector `alu[y]` (R149). -/
inductive AluOp where
  | add | adc | sub | sbc | and | xor | or | cp
deriving DecidableEq, Repr

/-- The rotate and shift selector `rot[y]` (R149). -/
inductive RotOp where
  | rlc | rrc | rl | rr | sla | sra | sll | srl
deriving DecidableEq, Repr

/-- The instructions. `d` and `e` are signed displacement bytes, `n` an unsigned immediate byte and `nn` a 16-bit immediate
(R153). Fields that only tell duplicate encodings of one instruction apart are kept, so that no bit of an encoding is lost. -/
inductive Instr where
  -- Main table, quadrant x = 0 (spec/41_main_x0.md)
  /-- NOP (R200) -/
  | nop
  /-- EX AF,AF' (R201) -/
  | exAfAf
  /-- DJNZ e (R202) -/
  | djnz (e : Byte)
  /-- JR e (R203) -/
  | jr (e : Byte)
  /-- JR cc,e (R204) -/
  | jrCc (cc : JrCond) (e : Byte)
  /-- LD rp,nn (R205) -/
  | ldRpNn (p : RP) (nn : Word)
  /-- LD XY,nn (R205) -/
  | ldXyNn (x : XY) (nn : Word)
  /-- ADD HL,rp (R206) -/
  | addHlRp (p : RP)
  /-- ADD XY,rp; code 2 (`RP.hl`) names XY itself (R206) -/
  | addXyRp (x : XY) (p : RP)
  /-- LD (BC),A and LD (DE),A (R207) -/
  | ldPairA (p : BcDe)
  /-- LD (nn),HL (R208) -/
  | ldMemHl (nn : Word)
  /-- LD (nn),XY (R208) -/
  | ldMemXy (x : XY) (nn : Word)
  /-- LD (nn),A (R209) -/
  | ldMemA (nn : Word)
  /-- LD A,(BC) and LD A,(DE) (R210) -/
  | ldAPair (p : BcDe)
  /-- LD HL,(nn) (R211) -/
  | ldHlMem (nn : Word)
  /-- LD XY,(nn) (R211) -/
  | ldXyMem (x : XY) (nn : Word)
  /-- LD A,(nn) (R212) -/
  | ldAMem (nn : Word)
  /-- INC rp (R213) -/
  | incRp (p : RP)
  /-- INC XY (R213) -/
  | incXy (x : XY)
  /-- INC r (R214) -/
  | incR (r : R8)
  /-- INC XYH and INC XYL (R214) -/
  | incHalf (x : XY) (k : Half)
  /-- INC (HL) (R215) -/
  | incMem
  /-- INC (XY+d) (R215) -/
  | incIdx (x : XY) (d : Byte)
  /-- DEC r (R216) -/
  | decR (r : R8)
  /-- DEC XYH and DEC XYL (R216) -/
  | decHalf (x : XY) (k : Half)
  /-- DEC (HL) (R217) -/
  | decMem
  /-- DEC (XY+d) (R217) -/
  | decIdx (x : XY) (d : Byte)
  /-- LD r,n (R218) -/
  | ldRN (r : R8) (n : Byte)
  /-- LD XYH,n and LD XYL,n (R218) -/
  | ldHalfN (x : XY) (k : Half) (n : Byte)
  /-- LD (HL),n (R219) -/
  | ldHlN (n : Byte)
  /-- LD (XY+d),n (R219) -/
  | ldIdxN (x : XY) (d : Byte) (n : Byte)
  /-- DEC rp (R220) -/
  | decRp (p : RP)
  /-- DEC XY (R220) -/
  | decXy (x : XY)
  /-- RLCA (R229) -/
  | rlca
  /-- RRCA (R230) -/
  | rrca
  /-- RLA (R231) -/
  | rla
  /-- RRA (R232) -/
  | rra
  /-- DAA (R233) -/
  | daa
  /-- CPL (R234) -/
  | cpl
  /-- SCF (R235) -/
  | scf
  /-- CCF (R236) -/
  | ccf
  -- Main table, quadrants x = 1 and x = 2 (spec/42_main_x1_x2.md)
  /-- LD r,r' (r2 is the source) (R240) -/
  | ldRR (r : R8) (r2 : R8)
  /-- LD r,r' under DD/FD: H and L read as XYH and XYL (R240) -/
  | ldRRXy (x : XY) (r : R8X) (r2 : R8X)
  /-- HALT (R241) -/
  | halt
  /-- HALT with an ignored DD/FD (R241) -/
  | haltXy (x : XY)
  /-- LD r,(HL) (R242) -/
  | ldRMem (r : R8)
  /-- LD r,(XY+d); r is plain (R242) -/
  | ldRIdx (r : R8) (x : XY) (d : Byte)
  /-- LD (HL),r (R243) -/
  | ldMemR (r : R8)
  /-- LD (XY+d),r; r is plain (R243) -/
  | ldIdxR (x : XY) (d : Byte) (r : R8)
  /-- ADD A,r (R245) -/
  | addR (r : R8)
  /-- ADD A,(HL) (R245) -/
  | addMem
  /-- ADD A,XYH and ADD A,XYL (R245) -/
  | addHalf (x : XY) (k : Half)
  /-- ADD A,(XY+d) (R245) -/
  | addIdx (x : XY) (d : Byte)
  /-- ADD A,n (R245) -/
  | addN (n : Byte)
  /-- ADC A,r (R246) -/
  | adcR (r : R8)
  /-- ADC A,(HL) (R246) -/
  | adcMem
  /-- ADC A,XYH and ADC A,XYL (R246) -/
  | adcHalf (x : XY) (k : Half)
  /-- ADC A,(XY+d) (R246) -/
  | adcIdx (x : XY) (d : Byte)
  /-- ADC A,n (R246) -/
  | adcN (n : Byte)
  /-- SUB r (R247) -/
  | subR (r : R8)
  /-- SUB (HL) (R247) -/
  | subMem
  /-- SUB XYH and SUB XYL (R247) -/
  | subHalf (x : XY) (k : Half)
  /-- SUB (XY+d) (R247) -/
  | subIdx (x : XY) (d : Byte)
  /-- SUB n (R247) -/
  | subN (n : Byte)
  /-- SBC A,r (R248) -/
  | sbcR (r : R8)
  /-- SBC A,(HL) (R248) -/
  | sbcMem
  /-- SBC A,XYH and SBC A,XYL (R248) -/
  | sbcHalf (x : XY) (k : Half)
  /-- SBC A,(XY+d) (R248) -/
  | sbcIdx (x : XY) (d : Byte)
  /-- SBC A,n (R248) -/
  | sbcN (n : Byte)
  /-- AND r (R249) -/
  | andR (r : R8)
  /-- AND (HL) (R249) -/
  | andMem
  /-- AND XYH and AND XYL (R249) -/
  | andHalf (x : XY) (k : Half)
  /-- AND (XY+d) (R249) -/
  | andIdx (x : XY) (d : Byte)
  /-- AND n (R249) -/
  | andN (n : Byte)
  /-- XOR r (R250) -/
  | xorR (r : R8)
  /-- XOR (HL) (R250) -/
  | xorMem
  /-- XOR XYH and XOR XYL (R250) -/
  | xorHalf (x : XY) (k : Half)
  /-- XOR (XY+d) (R250) -/
  | xorIdx (x : XY) (d : Byte)
  /-- XOR n (R250) -/
  | xorN (n : Byte)
  /-- OR r (R251) -/
  | orR (r : R8)
  /-- OR (HL) (R251) -/
  | orMem
  /-- OR XYH and OR XYL (R251) -/
  | orHalf (x : XY) (k : Half)
  /-- OR (XY+d) (R251) -/
  | orIdx (x : XY) (d : Byte)
  /-- OR n (R251) -/
  | orN (n : Byte)
  /-- CP r (R252) -/
  | cpR (r : R8)
  /-- CP (HL) (R252) -/
  | cpMem
  /-- CP XYH and CP XYL (R252) -/
  | cpHalf (x : XY) (k : Half)
  /-- CP (XY+d) (R252) -/
  | cpIdx (x : XY) (d : Byte)
  /-- CP n (R252) -/
  | cpN (n : Byte)
  -- Main table, quadrant x = 3 (spec/43_main_x3.md)
  /-- RET cc (R260) -/
  | retCc (cc : Cond)
  /-- POP rr (R261) -/
  | popRr (p : RP2)
  /-- POP XY (R261) -/
  | popXy (x : XY)
  /-- RET (R262) -/
  | ret
  /-- EXX (R266) -/
  | exx
  /-- JP (HL) (R267) -/
  | jpHl
  /-- JP (XY) (R267) -/
  | jpXy (x : XY)
  /-- LD SP,HL (R268) -/
  | ldSpHl
  /-- LD SP,XY (R268) -/
  | ldSpXy (x : XY)
  /-- JP cc,nn (R269) -/
  | jpCc (cc : Cond) (nn : Word)
  /-- JP nn (R270) -/
  | jp (nn : Word)
  /-- OUT (n),A (R271) -/
  | outNA (n : Byte)
  /-- IN A,(n) (R272) -/
  | inAN (n : Byte)
  /-- EX (SP),HL (R273) -/
  | exSpHl
  /-- EX (SP),XY (R273) -/
  | exSpXy (x : XY)
  /-- EX DE,HL (R274) -/
  | exDeHl
  /-- DI (R275) -/
  | di
  /-- EI (R276) -/
  | ei
  /-- CALL cc,nn (R277) -/
  | callCc (cc : Cond) (nn : Word)
  /-- PUSH rr (R278) -/
  | pushRr (p : RP2)
  /-- PUSH XY (R278) -/
  | pushXy (x : XY)
  /-- CALL nn (R279) -/
  | call (nn : Word)
  /-- RST 8*y (R280) -/
  | rst (y : BitVec 3)
  -- The DD/FD prefix that has no effect (spec/41_main_x0.md R238, spec/30_encoding.md R152)
  /-- a DD/FD prefix that has no effect, before the whole instruction `i` that follows it (R238) -/
  | ignored (x : XY) (i : Instr)
  -- CB and DDCB/FDCB (spec/44_cb.md)
  /-- RLC r (R300) -/
  | rlcR (r : R8)
  /-- RLC (HL) (R300) -/
  | rlcMem
  /-- RLC (XY+d) (R300) -/
  | rlcIdx (x : XY) (d : Byte)
  /-- RLC (XY+d),r: the result is also copied to the plain r (R311) -/
  | rlcIdxR (x : XY) (d : Byte) (r : R8)
  /-- RRC r (R301) -/
  | rrcR (r : R8)
  /-- RRC (HL) (R301) -/
  | rrcMem
  /-- RRC (XY+d) (R301) -/
  | rrcIdx (x : XY) (d : Byte)
  /-- RRC (XY+d),r: the result is also copied to the plain r (R311) -/
  | rrcIdxR (x : XY) (d : Byte) (r : R8)
  /-- RL r (R302) -/
  | rlR (r : R8)
  /-- RL (HL) (R302) -/
  | rlMem
  /-- RL (XY+d) (R302) -/
  | rlIdx (x : XY) (d : Byte)
  /-- RL (XY+d),r: the result is also copied to the plain r (R311) -/
  | rlIdxR (x : XY) (d : Byte) (r : R8)
  /-- RR r (R303) -/
  | rrR (r : R8)
  /-- RR (HL) (R303) -/
  | rrMem
  /-- RR (XY+d) (R303) -/
  | rrIdx (x : XY) (d : Byte)
  /-- RR (XY+d),r: the result is also copied to the plain r (R311) -/
  | rrIdxR (x : XY) (d : Byte) (r : R8)
  /-- SLA r (R304) -/
  | slaR (r : R8)
  /-- SLA (HL) (R304) -/
  | slaMem
  /-- SLA (XY+d) (R304) -/
  | slaIdx (x : XY) (d : Byte)
  /-- SLA (XY+d),r: the result is also copied to the plain r (R311) -/
  | slaIdxR (x : XY) (d : Byte) (r : R8)
  /-- SRA r (R305) -/
  | sraR (r : R8)
  /-- SRA (HL) (R305) -/
  | sraMem
  /-- SRA (XY+d) (R305) -/
  | sraIdx (x : XY) (d : Byte)
  /-- SRA (XY+d),r: the result is also copied to the plain r (R311) -/
  | sraIdxR (x : XY) (d : Byte) (r : R8)
  /-- SLL r (R306) -/
  | sllR (r : R8)
  /-- SLL (HL) (R306) -/
  | sllMem
  /-- SLL (XY+d) (R306) -/
  | sllIdx (x : XY) (d : Byte)
  /-- SLL (XY+d),r: the result is also copied to the plain r (R311) -/
  | sllIdxR (x : XY) (d : Byte) (r : R8)
  /-- SRL r (R307) -/
  | srlR (r : R8)
  /-- SRL (HL) (R307) -/
  | srlMem
  /-- SRL (XY+d) (R307) -/
  | srlIdx (x : XY) (d : Byte)
  /-- SRL (XY+d),r: the result is also copied to the plain r (R311) -/
  | srlIdxR (x : XY) (d : Byte) (r : R8)
  /-- BIT b,r (R308) -/
  | bitR (b : BitVec 3) (r : R8)
  /-- BIT b,(HL) (R308) -/
  | bitMem (b : BitVec 3)
  /-- BIT b,(XY+d); z is ignored (R312) -/
  | bitIdx (x : XY) (d : Byte) (b : BitVec 3) (z : BitVec 3)
  /-- RES b,r (R309) -/
  | resR (b : BitVec 3) (r : R8)
  /-- RES b,(HL) (R309) -/
  | resMem (b : BitVec 3)
  /-- RES b,(XY+d) (R309) -/
  | resIdx (x : XY) (d : Byte) (b : BitVec 3)
  /-- RES b,(XY+d),r: the result is also copied to the plain r (R311) -/
  | resIdxR (x : XY) (d : Byte) (b : BitVec 3) (r : R8)
  /-- SET b,r (R310) -/
  | setR (b : BitVec 3) (r : R8)
  /-- SET b,(HL) (R310) -/
  | setMem (b : BitVec 3)
  /-- SET b,(XY+d) (R310) -/
  | setIdx (x : XY) (d : Byte) (b : BitVec 3)
  /-- SET b,(XY+d),r: the result is also copied to the plain r (R311) -/
  | setIdxR (x : XY) (d : Byte) (b : BitVec 3) (r : R8)
  -- ED, quadrant 1 and the holes (spec/45_ed.md)
  /-- IN r,(C) (R320) -/
  | inRC (r : R8)
  /-- IN (C): flags only (R321) -/
  | inC
  /-- OUT (C),r (R322) -/
  | outCR (r : R8)
  /-- OUT (C),0 (R323) -/
  | outC0
  /-- SBC HL,rp (R324) -/
  | sbcHlRp (p : RP)
  /-- ADC HL,rp (R325) -/
  | adcHlRp (p : RP)
  /-- LD (nn),rp, the ED form (R326) -/
  | ldMemRp (p : RP) (nn : Word)
  /-- LD rp,(nn), the ED form (R327) -/
  | ldRpMem (p : RP) (nn : Word)
  /-- NEG; y tells the eight duplicate codes apart (R330) -/
  | neg (y : BitVec 3)
  /-- RETN; y tells the seven codes apart, and is not 1 (R328) -/
  | retn (y : BitVec 3)
  /-- RETI (R336) -/
  | reti
  /-- IM m, with m = 0,0,1,2,0,0,1,2 for y = 0..7 (R329) -/
  | im (y : BitVec 3)
  /-- LD I,A (R331) -/
  | ldIA
  /-- LD R,A (R332) -/
  | ldRA
  /-- LD A,I (R333) -/
  | ldAI
  /-- LD A,R (R337) -/
  | ldAR
  /-- RRD (R334) -/
  | rrd
  /-- RLD (R335) -/
  | rld
  /-- the no-ops ED 77 (y0 = 0) and ED 7F (y0 = 1) (R340) -/
  | nopEd7 (y0 : BitVec 1)
  /-- the ED hole x = 0 (R340) -/
  | holeX0 (y : BitVec 3) (z : BitVec 3)
  /-- the ED hole x = 3 (R340) -/
  | holeX3 (y : BitVec 3) (z : BitVec 3)
  /-- the ED hole x = 2, y <= 3 (here with z <= 3, the other half being `holeX2HighZ`) (R340) -/
  | holeX2LowY (y2 : BitVec 2) (z2 : BitVec 2)
  /-- the ED hole x = 2, z >= 4 (R340) -/
  | holeX2HighZ (y : BitVec 3) (z2 : BitVec 2)
  -- ED block instructions (spec/46_ed_block.md)
  /-- LDI (R351) -/
  | ldi
  /-- CPI (R355) -/
  | cpi
  /-- INI (R359) -/
  | ini
  /-- OUTI (R363) -/
  | outi
  /-- LDD (R352) -/
  | ldd
  /-- CPD (R356) -/
  | cpd
  /-- IND (R360) -/
  | ind
  /-- OUTD (R364) -/
  | outd
  /-- LDIR (R353) -/
  | ldir
  /-- CPIR (R357) -/
  | cpir
  /-- INIR (R361) -/
  | inir
  /-- OTIR (R365) -/
  | otir
  /-- LDDR (R354) -/
  | lddr
  /-- CPDR (R358) -/
  | cpdr
  /-- INDR (R362) -/
  | indr
  /-- OTDR (R366) -/
  | otdr
deriving DecidableEq, Repr

end Sys2Proof
end

