-- ==== Sys2Proof/WellFormed.lean ====
section
/-! DEFINITION. Which terms of `Instr` stand for an encoding. The operand types already exclude code 6 of `r8` and the conditions
JR cc lacks; two checks remain. -/

namespace Sys2Proof

/-- The main-table and CB instructions whose meaning a DD or FD prefix changes: those that name HL, H, L or (HL), or whose row is
in the list of spec/30_encoding.md R159. Every LD r,r', HALT and every CB instruction is among them, since under a prefix they are rows
of their own. -/
def Instr.takesIndex : Instr → Bool
  | .ldRpNn p _ => p == .hl
  | .addHlRp _ | .ldMemHl _ | .ldHlMem _ => true
  | .incRp p | .decRp p => p == .hl
  | .incR r | .decR r | .ldRN r _ => r == .h || r == .l
  | .incMem | .decMem | .ldHlN _ => true
  | .ldRR _ _ | .halt | .ldRMem _ | .ldMemR _ => true
  | .addR r | .adcR r | .subR r | .sbcR r | .andR r | .xorR r | .orR r | .cpR r => r == .h || r == .l
  | .addMem | .adcMem | .subMem | .sbcMem | .andMem | .xorMem | .orMem | .cpMem => true
  | .popRr p | .pushRr p => p == .hl
  | .jpHl | .ldSpHl | .exSpHl => true
  | .rlcR _ | .rrcR _ | .rlR _ | .rrR _ | .slaR _ | .sraR _ | .sllR _ | .srlR _ => true
  | .rlcMem | .rrcMem | .rlMem | .rrMem | .slaMem | .sraMem | .sllMem | .srlMem => true
  | .bitR _ _ | .bitMem _ | .resR _ _ | .resMem _ | .setR _ _ | .setMem _ => true
  | _ => false

/-- The well-formed instructions. RETN's `y` is not 1, which is RETI's (R328); an ignored prefix stands before an instruction that it
does not change (R238), which may itself begin with a prefix (R152). -/
def Instr.wf : Instr → Bool
  | .retn y => y != 1
  | .ignored _ i => !i.takesIndex && i.wf
  | _ => true

end Sys2Proof
end

