-- ==== Sys2Proof/Decode.lean ====
section
/-! DEFINITION. The decoder (spec/30_encoding.md), total on any byte list, and after it the encoder. A byte list is read in fetch order.
No encoding is illegal (R160): the only way a decode fails is that the list ends inside an instruction. -/

namespace Sys2Proof

/-- What the decoder reads from a byte list: an instruction and the bytes after it, or the news that the list ends too early. -/
inductive Decoded where
  | ok (i : Instr) (rest : List Byte)
  | truncated
deriving DecidableEq, Repr

/-- Wrap the instruction read. -/
def Decoded.map (f : Instr → Instr) : Decoded → Decoded
  | .ok i rest => .ok (f i) rest
  | .truncated => .truncated

/-- `x = op[7:6]` (R140). -/
def fieldX (op : Byte) : BitVec 2 := op.extractLsb' 6 2
/-- `y = op[5:3]` (R140). -/
def fieldY (op : Byte) : BitVec 3 := op.extractLsb' 3 3
/-- `z = op[2:0]` (R140). -/
def fieldZ (op : Byte) : BitVec 3 := op.extractLsb' 0 3
/-- `p = y[2:1]` (R140). -/
def fieldP (y : BitVec 3) : BitVec 2 := y.extractLsb' 1 2
/-- `q = y[0]` (R140). -/
def fieldQ (y : BitVec 3) : Bool := y.getLsbD 0

/-- `r8[n]`; code 6, the memory operand, is `none` (R145). -/
def r8Of (n : BitVec 3) : Option R8 :=
  match n.toNat with
  | 0 => some .b | 1 => some .c | 2 => some .d | 3 => some .e | 4 => some .h | 5 => some .l | 6 => none | _ => some .a

/-- `r8[n]` under an index modifier (R146). -/
def r8xOf (n : BitVec 3) : Option R8X :=
  match n.toNat with
  | 0 => some .b | 1 => some .c | 2 => some .d | 3 => some .e | 4 => some .xh | 5 => some .xl | 6 => none | _ => some .a

/-- Codes 4 and 5 of `r8` under an index modifier (R146). -/
def halfOf (n : BitVec 3) : Option Half :=
  match n.toNat with
  | 4 => some .hi | 5 => some .lo | _ => none

/-- `rp[p]` (R147). -/
def rpOf (p : BitVec 2) : RP :=
  match p.toNat with
  | 0 => .bc | 1 => .de | 2 => .hl | _ => .sp

/-- `rp2[p]` (R147). -/
def rp2Of (p : BitVec 2) : RP2 :=
  match p.toNat with
  | 0 => .bc | 1 => .de | 2 => .hl | _ => .af

/-- `cc[y]` (R148). -/
def condOf (y : BitVec 3) : Cond :=
  match y.toNat with
  | 0 => .nz | 1 => .z | 2 => .nc | 3 => .c | 4 => .po | 5 => .pe | 6 => .p | _ => .m

/-- `cc[y-4]` for JR (R148). -/
def jrCondOf (y : BitVec 3) : JrCond :=
  match y.toNat with
  | 4 => .nz | 5 => .z | 6 => .nc | _ => .c

/-- Read one operand byte. -/
def withByte (bs : List Byte) (k : Byte → Instr) : Decoded :=
  match bs with
  | n :: rest => .ok (k n) rest
  | [] => .truncated

/-- Read `d` and then `n` (format X-d-n of R140). -/
def withTwoBytes (bs : List Byte) (k : Byte → Byte → Instr) : Decoded :=
  match bs with
  | d :: n :: rest => .ok (k d n) rest
  | _ => .truncated

/-- Read a 16-bit immediate, low byte first (R153). -/
def withWord (bs : List Byte) (k : Word → Instr) : Decoded :=
  withTwoBytes bs fun lo hi => k (mk16 hi lo)

/-- Quadrant x = 0 of the main table (R156). -/
def decodeQuadrant0 (y z : BitVec 3) (rest : List Byte) : Decoded :=
  match z.toNat with
  | 0 => match y.toNat with
    | 0 => .ok .nop rest
    | 1 => .ok .exAfAf rest
    | 2 => withByte rest .djnz
    | 3 => withByte rest .jr
    | _ => withByte rest (.jrCc (jrCondOf y))
  | 1 => if fieldQ y then .ok (.addHlRp (rpOf (fieldP y))) rest else withWord rest (.ldRpNn (rpOf (fieldP y)))
  | 2 => match y.toNat with
    | 0 => .ok (.ldPairA .bc) rest
    | 1 => .ok (.ldAPair .bc) rest
    | 2 => .ok (.ldPairA .de) rest
    | 3 => .ok (.ldAPair .de) rest
    | 4 => withWord rest .ldMemHl
    | 5 => withWord rest .ldHlMem
    | 6 => withWord rest .ldMemA
    | _ => withWord rest .ldAMem
  | 3 => if fieldQ y then .ok (.decRp (rpOf (fieldP y))) rest else .ok (.incRp (rpOf (fieldP y))) rest
  | 4 => match r8Of y with
    | some r => .ok (.incR r) rest
    | none => .ok .incMem rest
  | 5 => match r8Of y with
    | some r => .ok (.decR r) rest
    | none => .ok .decMem rest
  | 6 => match r8Of y with
    | some r => withByte rest (.ldRN r)
    | none => withByte rest .ldHlN
  | _ => match y.toNat with
    | 0 => .ok .rlca rest
    | 1 => .ok .rrca rest
    | 2 => .ok .rla rest
    | 3 => .ok .rra rest
    | 4 => .ok .daa rest
    | 5 => .ok .cpl rest
    | 6 => .ok .scf rest
    | _ => .ok .ccf rest

/-- Quadrant x = 1 of the main table (R156): loads, and HALT where both codes are 6. -/
def decodeQuadrant1 (y z : BitVec 3) (rest : List Byte) : Decoded :=
  match r8Of y, r8Of z with
  | some r, some r2 => .ok (.ldRR r r2) rest
  | some r, none => .ok (.ldRMem r) rest
  | none, some r => .ok (.ldMemR r) rest
  | none, none => .ok .halt rest

/-- `alu[y]` on a register (R149, R156). -/
def aluReg (y : BitVec 3) (r : R8) : Instr :=
  match y.toNat with
  | 0 => .addR r | 1 => .adcR r | 2 => .subR r | 3 => .sbcR r | 4 => .andR r | 5 => .xorR r | 6 => .orR r | _ => .cpR r

/-- `alu[y]` on (HL) (R149, R156). -/
def aluMem (y : BitVec 3) : Instr :=
  match y.toNat with
  | 0 => .addMem | 1 => .adcMem | 2 => .subMem | 3 => .sbcMem | 4 => .andMem | 5 => .xorMem | 6 => .orMem | _ => .cpMem

/-- `alu[y]` on an immediate (R149, R156). -/
def aluImm (y : BitVec 3) (n : Byte) : Instr :=
  match y.toNat with
  | 0 => .addN n | 1 => .adcN n | 2 => .subN n | 3 => .sbcN n | 4 => .andN n | 5 => .xorN n | 6 => .orN n | _ => .cpN n

/-- `alu[y]` on a half of an index register (R146, R149). -/
def aluHalf (y : BitVec 3) (x : XY) (k : Half) : Instr :=
  match y.toNat with
  | 0 => .addHalf x k | 1 => .adcHalf x k | 2 => .subHalf x k | 3 => .sbcHalf x k
  | 4 => .andHalf x k | 5 => .xorHalf x k | 6 => .orHalf x k | _ => .cpHalf x k

/-- `alu[y]` on (XY+d) (R141, R149). -/
def aluIdx (y : BitVec 3) (x : XY) (d : Byte) : Instr :=
  match y.toNat with
  | 0 => .addIdx x d | 1 => .adcIdx x d | 2 => .subIdx x d | 3 => .sbcIdx x d
  | 4 => .andIdx x d | 5 => .xorIdx x d | 6 => .orIdx x d | _ => .cpIdx x d

/-- Quadrant x = 2 of the main table (R156). -/
def decodeQuadrant2 (y z : BitVec 3) (rest : List Byte) : Decoded :=
  match r8Of z with
  | some r => .ok (aluReg y r) rest
  | none => .ok (aluMem y) rest

/-- Quadrant x = 3 of the main table (R156). The four prefix codes are taken before this function is reached (R150); their places here
read as the no-op a hole is. -/
def decodeQuadrant3 (y z : BitVec 3) (rest : List Byte) : Decoded :=
  match z.toNat with
  | 0 => .ok (.retCc (condOf y)) rest
  | 1 => match y.toNat with
    | 1 => .ok .ret rest
    | 3 => .ok .exx rest
    | 5 => .ok .jpHl rest
    | 7 => .ok .ldSpHl rest
    | _ => .ok (.popRr (rp2Of (fieldP y))) rest
  | 2 => withWord rest (.jpCc (condOf y))
  | 3 => match y.toNat with
    | 0 => withWord rest .jp
    | 1 => .ok .nop rest
    | 2 => withByte rest .outNA
    | 3 => withByte rest .inAN
    | 4 => .ok .exSpHl rest
    | 5 => .ok .exDeHl rest
    | 6 => .ok .di rest
    | _ => .ok .ei rest
  | 4 => withWord rest (.callCc (condOf y))
  | 5 => match y.toNat with
    | 1 => withWord rest .call
    | 3 => .ok .nop rest
    | 5 => .ok .nop rest
    | 7 => .ok .nop rest
    | _ => .ok (.pushRr (rp2Of (fieldP y))) rest
  | 6 => withByte rest (aluImm y)
  | _ => .ok (.rst y) rest

/-- The main table (R156), after its opcode byte. -/
def decodeMain (op : Byte) (rest : List Byte) : Decoded :=
  match (fieldX op).toNat with
  | 0 => decodeQuadrant0 (fieldY op) (fieldZ op) rest
  | 1 => decodeQuadrant1 (fieldY op) (fieldZ op) rest
  | 2 => decodeQuadrant2 (fieldY op) (fieldZ op) rest
  | _ => decodeQuadrant3 (fieldY op) (fieldZ op) rest

/-- `rot[y]` on a register (R149, R157). -/
def rotReg (y : BitVec 3) (r : R8) : Instr :=
  match y.toNat with
  | 0 => .rlcR r | 1 => .rrcR r | 2 => .rlR r | 3 => .rrR r | 4 => .slaR r | 5 => .sraR r | 6 => .sllR r | _ => .srlR r

/-- `rot[y]` on (HL) (R149, R157). -/
def rotMem (y : BitVec 3) : Instr :=
  match y.toNat with
  | 0 => .rlcMem | 1 => .rrcMem | 2 => .rlMem | 3 => .rrMem | 4 => .slaMem | 5 => .sraMem | 6 => .sllMem | _ => .srlMem

/-- `rot[y]` on (XY+d) (R149, R311). -/
def rotIdx (y : BitVec 3) (x : XY) (d : Byte) : Instr :=
  match y.toNat with
  | 0 => .rlcIdx x d | 1 => .rrcIdx x d | 2 => .rlIdx x d | 3 => .rrIdx x d
  | 4 => .slaIdx x d | 5 => .sraIdx x d | 6 => .sllIdx x d | _ => .srlIdx x d

/-- `rot[y]` on (XY+d) with a copy to a register (R149, R311). -/
def rotIdxReg (y : BitVec 3) (x : XY) (d : Byte) (r : R8) : Instr :=
  match y.toNat with
  | 0 => .rlcIdxR x d r | 1 => .rrcIdxR x d r | 2 => .rlIdxR x d r | 3 => .rrIdxR x d r
  | 4 => .slaIdxR x d r | 5 => .sraIdxR x d r | 6 => .sllIdxR x d r | _ => .srlIdxR x d r

/-- The CB table (R157), after both opcode bytes. -/
def decodeCb (op : Byte) : Instr :=
  match (fieldX op).toNat, r8Of (fieldZ op) with
  | 0, some r => rotReg (fieldY op) r
  | 0, none => rotMem (fieldY op)
  | 1, some r => .bitR (fieldY op) r
  | 1, none => .bitMem (fieldY op)
  | 2, some r => .resR (fieldY op) r
  | 2, none => .resMem (fieldY op)
  | _, some r => .setR (fieldY op) r
  | _, none => .setMem (fieldY op)

/-- The CB table under an index modifier (R144, R157, R311, R312). -/
def decodeXyCb (x : XY) (d op : Byte) : Instr :=
  match (fieldX op).toNat, r8Of (fieldZ op) with
  | 0, some r => rotIdxReg (fieldY op) x d r
  | 0, none => rotIdx (fieldY op) x d
  | 1, _ => .bitIdx x d (fieldY op) (fieldZ op)
  | 2, some r => .resIdxR x d (fieldY op) r
  | 2, none => .resIdx x d (fieldY op)
  | _, some r => .setIdxR x d (fieldY op) r
  | _, none => .setIdx x d (fieldY op)

/-- ED quadrant 1 (R158). -/
def decodeEd1 (y z : BitVec 3) (rest : List Byte) : Decoded :=
  match z.toNat with
  | 0 => match r8Of y with
    | some r => .ok (.inRC r) rest
    | none => .ok .inC rest
  | 1 => match r8Of y with
    | some r => .ok (.outCR r) rest
    | none => .ok .outC0 rest
  | 2 => if fieldQ y then .ok (.adcHlRp (rpOf (fieldP y))) rest else .ok (.sbcHlRp (rpOf (fieldP y))) rest
  | 3 => if fieldQ y then withWord rest (.ldRpMem (rpOf (fieldP y))) else withWord rest (.ldMemRp (rpOf (fieldP y)))
  | 4 => .ok (.neg y) rest
  | 5 => if y = 1 then .ok .reti rest else .ok (.retn y) rest
  | 6 => .ok (.im y) rest
  | _ => match y.toNat with
    | 0 => .ok .ldIA rest
    | 1 => .ok .ldRA rest
    | 2 => .ok .ldAI rest
    | 3 => .ok .ldAR rest
    | 4 => .ok .rrd rest
    | 5 => .ok .rld rest
    | _ => .ok (.nopEd7 (y.extractLsb' 0 1)) rest

/-- The block table `bli[y-4][z]` (R158). -/
def blockInstr (y z : BitVec 3) : Option Instr :=
  match y.toNat, z.toNat with
  | 4, 0 => some .ldi | 4, 1 => some .cpi | 4, 2 => some .ini | 4, 3 => some .outi
  | 5, 0 => some .ldd | 5, 1 => some .cpd | 5, 2 => some .ind | 5, 3 => some .outd
  | 6, 0 => some .ldir | 6, 1 => some .cpir | 6, 2 => some .inir | 6, 3 => some .otir
  | 7, 0 => some .lddr | 7, 1 => some .cpdr | 7, 2 => some .indr | 7, 3 => some .otdr
  | _, _ => none

/-- ED quadrant 2 (R158): the block instructions, and the holes around them. A code with y <= 3 and z >= 4 lies in two rows of the
table, which mean the same; it is read here as the row z >= 4 (log entry 10). -/
def decodeEd2 (y z : BitVec 3) : Instr :=
  match blockInstr y z with
  | some i => i
  | none =>
    if z.getLsbD 2 then .holeX2HighZ y (z.extractLsb' 0 2) else .holeX2LowY (y.extractLsb' 0 2) (z.extractLsb' 0 2)

/-- The ED table (R158, R160), after both opcode bytes. -/
def decodeEd (op : Byte) (rest : List Byte) : Decoded :=
  match (fieldX op).toNat with
  | 0 => .ok (.holeX0 (fieldY op) (fieldZ op)) rest
  | 1 => decodeEd1 (fieldY op) (fieldZ op) rest
  | 2 => .ok (decodeEd2 (fieldY op) (fieldZ op)) rest
  | _ => .ok (.holeX3 (fieldY op) (fieldZ op)) rest

/-- Quadrant x = 0 under an index modifier: the opcodes whose meaning it changes (R159, R237). -/
def decodeXy0 (x : XY) (y z : BitVec 3) (rest : List Byte) : Option Decoded :=
  match z.toNat with
  | 1 =>
    if fieldQ y then some (.ok (.addXyRp x (rpOf (fieldP y))) rest)
    else if fieldP y = 2 then some (withWord rest (.ldXyNn x)) else none
  | 2 => match y.toNat with
    | 4 => some (withWord rest (.ldMemXy x))
    | 5 => some (withWord rest (.ldXyMem x))
    | _ => none
  | 3 => match y.toNat with
    | 4 => some (.ok (.incXy x) rest)
    | 5 => some (.ok (.decXy x) rest)
    | _ => none
  | 4 => if y = 6 then some (withByte rest (.incIdx x)) else (halfOf y).map fun k => .ok (.incHalf x k) rest
  | 5 => if y = 6 then some (withByte rest (.decIdx x)) else (halfOf y).map fun k => .ok (.decHalf x k) rest
  | 6 => if y = 6 then some (withTwoBytes rest (.ldIdxN x)) else (halfOf y).map fun k => withByte rest (.ldHalfN x k)
  | _ => none

/-- Quadrant x = 1 under an index modifier (R146, R159): with a memory operand the other operand is the plain register. -/
def decodeXy1 (x : XY) (y z : BitVec 3) (rest : List Byte) : Decoded :=
  match r8xOf y, r8xOf z with
  | some r, some r2 => .ok (.ldRRXy x r r2) rest
  | some _, none => match r8Of y with
    | some r => withByte rest (.ldRIdx r x)
    | none => .ok (.haltXy x) rest
  | none, some _ => match r8Of z with
    | some r => withByte rest fun d => .ldIdxR x d r
    | none => .ok (.haltXy x) rest
  | none, none => .ok (.haltXy x) rest

/-- The main table under an index modifier; `none` is an opcode that the modifier does not change (R141, R159). The opcode CB
is taken before this function is reached (R144). -/
def decodeXy (x : XY) (op : Byte) (rest : List Byte) : Option Decoded :=
  let y := fieldY op
  let z := fieldZ op
  match (fieldX op).toNat with
  | 0 => decodeXy0 x y z rest
  | 1 => some (decodeXy1 x y z rest)
  | 2 => if z = 6 then some (withByte rest (aluIdx y x)) else (halfOf z).map fun k => .ok (aluHalf y x k) rest
  | _ =>
    if op = 0xE1 then some (.ok (.popXy x) rest)
    else if op = 0xE3 then some (.ok (.exSpXy x) rest)
    else if op = 0xE5 then some (.ok (.pushXy x) rest)
    else if op = 0xE9 then some (.ok (.jpXy x) rest)
    else if op = 0xF9 then some (.ok (.ldSpXy x) rest)
    else none

/-- The index register a prefix byte selects: DD is IX, FD is IY (R141). -/
def xyOf (b : Byte) : Option XY :=
  if b = 0xDD then some .ix else if b = 0xFD then some .iy else none

/-- THE DECODER (R150): prefixes, then the table they lead to. A DD or FD byte before an opcode it does not change, before ED or
before another DD or FD is an ignored prefix of the instruction that follows (R142, R152, R238). -/
def decode : List Byte → Decoded
  | [] => .truncated
  | b :: tail =>
    match xyOf b with
    | some x =>
      match tail with
      | [] => .truncated
      | op :: rest =>
        if op = 0xCB then withTwoBytes rest (decodeXyCb x)
        else match decodeXy x op rest with
          | some r => r
          | none => (decode tail).map (.ignored x)
    | none =>
      if b = 0xCB then
        match tail with
        | op :: rest => .ok (decodeCb op) rest
        | [] => .truncated
      else if b = 0xED then
        match tail with
        | op :: rest => decodeEd op rest
        | [] => .truncated
      else decodeMain b tail

/-! ### The encoder, from the same tables. -/

/-- The code of an `r8` operand (R145). -/
def R8.code : R8 → BitVec 3
  | .b => 0 | .c => 1 | .d => 2 | .e => 3 | .h => 4 | .l => 5 | .a => 7

/-- The code of an `r8` operand under a modifier (R146). -/
def R8X.code : R8X → BitVec 3
  | .b => 0 | .c => 1 | .d => 2 | .e => 3 | .xh => 4 | .xl => 5 | .a => 7

/-- The code of a half (R146). -/
def Half.code : Half → BitVec 3
  | .hi => 4 | .lo => 5

/-- The code of a pair (R147). -/
def RP.code : RP → BitVec 2
  | .bc => 0 | .de => 1 | .hl => 2 | .sp => 3

/-- The code of a pair of `rp2` (R147). -/
def RP2.code : RP2 → BitVec 2
  | .bc => 0 | .de => 1 | .hl => 2 | .af => 3

/-- The code of BC or DE (R147). -/
def BcDe.code : BcDe → BitVec 2
  | .bc => 0 | .de => 1

/-- The code of a condition (R148). -/
def Cond.code : Cond → BitVec 3
  | .nz => 0 | .z => 1 | .nc => 2 | .c => 3 | .po => 4 | .pe => 5 | .p => 6 | .m => 7

/-- The code of JR's condition, `y = cc + 4` (R148, R204). -/
def JrCond.code : JrCond → BitVec 3
  | .nz => 4 | .z => 5 | .nc => 6 | .c => 7

/-- The prefix byte of an index register (R141). -/
def XY.byte : XY → Byte
  | .ix => 0xDD | .iy => 0xFD

/-- An opcode byte from its octal fields (R140). -/
def opYZ (x : BitVec 2) (y z : BitVec 3) : Byte := x ++ y ++ z

/-- An opcode byte from x, p, q and z (R140). -/
def opPQ (x p : BitVec 2) (q : BitVec 1) (z : BitVec 3) : Byte := x ++ p ++ q ++ z

/-- THE ENCODER: the bytes of an instruction in fetch order (R140, R156 to R160). -/
def encode : Instr → List Byte
  | .nop => [0x00]
  | .exAfAf => [0x08]
  | .djnz e => [0x10, e]
  | .jr e => [0x18, e]
  | .jrCc cc e => [opYZ 0 cc.code 0, e]
  | .ldRpNn p nn => [opPQ 0 p.code 0 1, lo8 nn, hi8 nn]
  | .ldXyNn x nn => [x.byte, 0x21, lo8 nn, hi8 nn]
  | .addHlRp p => [opPQ 0 p.code 1 1]
  | .addXyRp x p => [x.byte, opPQ 0 p.code 1 1]
  | .ldPairA p => [opPQ 0 p.code 0 2]
  | .ldMemHl nn => [0x22, lo8 nn, hi8 nn]
  | .ldMemXy x nn => [x.byte, 0x22, lo8 nn, hi8 nn]
  | .ldMemA nn => [0x32, lo8 nn, hi8 nn]
  | .ldAPair p => [opPQ 0 p.code 1 2]
  | .ldHlMem nn => [0x2A, lo8 nn, hi8 nn]
  | .ldXyMem x nn => [x.byte, 0x2A, lo8 nn, hi8 nn]
  | .ldAMem nn => [0x3A, lo8 nn, hi8 nn]
  | .incRp p => [opPQ 0 p.code 0 3]
  | .incXy x => [x.byte, 0x23]
  | .incR r => [opYZ 0 r.code 4]
  | .incHalf x k => [x.byte, opYZ 0 k.code 4]
  | .incMem => [0x34]
  | .incIdx x d => [x.byte, 0x34, d]
  | .decR r => [opYZ 0 r.code 5]
  | .decHalf x k => [x.byte, opYZ 0 k.code 5]
  | .decMem => [0x35]
  | .decIdx x d => [x.byte, 0x35, d]
  | .ldRN r n => [opYZ 0 r.code 6, n]
  | .ldHalfN x k n => [x.byte, opYZ 0 k.code 6, n]
  | .ldHlN n => [0x36, n]
  | .ldIdxN x d n => [x.byte, 0x36, d, n]
  | .decRp p => [opPQ 0 p.code 1 3]
  | .decXy x => [x.byte, 0x2B]
  | .rlca => [0x07]
  | .rrca => [0x0F]
  | .rla => [0x17]
  | .rra => [0x1F]
  | .daa => [0x27]
  | .cpl => [0x2F]
  | .scf => [0x37]
  | .ccf => [0x3F]
  | .ldRR r r2 => [opYZ 1 r.code r2.code]
  | .ldRRXy x r r2 => [x.byte, opYZ 1 r.code r2.code]
  | .halt => [0x76]
  | .haltXy x => [x.byte, 0x76]
  | .ldRMem r => [opYZ 1 r.code 6]
  | .ldRIdx r x d => [x.byte, opYZ 1 r.code 6, d]
  | .ldMemR r => [opYZ 1 6 r.code]
  | .ldIdxR x d r => [x.byte, opYZ 1 6 r.code, d]
  | .addR r => [opYZ 2 0 r.code]
  | .addMem => [0x86]
  | .addHalf x k => [x.byte, opYZ 2 0 k.code]
  | .addIdx x d => [x.byte, 0x86, d]
  | .addN n => [0xC6, n]
  | .adcR r => [opYZ 2 1 r.code]
  | .adcMem => [0x8E]
  | .adcHalf x k => [x.byte, opYZ 2 1 k.code]
  | .adcIdx x d => [x.byte, 0x8E, d]
  | .adcN n => [0xCE, n]
  | .subR r => [opYZ 2 2 r.code]
  | .subMem => [0x96]
  | .subHalf x k => [x.byte, opYZ 2 2 k.code]
  | .subIdx x d => [x.byte, 0x96, d]
  | .subN n => [0xD6, n]
  | .sbcR r => [opYZ 2 3 r.code]
  | .sbcMem => [0x9E]
  | .sbcHalf x k => [x.byte, opYZ 2 3 k.code]
  | .sbcIdx x d => [x.byte, 0x9E, d]
  | .sbcN n => [0xDE, n]
  | .andR r => [opYZ 2 4 r.code]
  | .andMem => [0xA6]
  | .andHalf x k => [x.byte, opYZ 2 4 k.code]
  | .andIdx x d => [x.byte, 0xA6, d]
  | .andN n => [0xE6, n]
  | .xorR r => [opYZ 2 5 r.code]
  | .xorMem => [0xAE]
  | .xorHalf x k => [x.byte, opYZ 2 5 k.code]
  | .xorIdx x d => [x.byte, 0xAE, d]
  | .xorN n => [0xEE, n]
  | .orR r => [opYZ 2 6 r.code]
  | .orMem => [0xB6]
  | .orHalf x k => [x.byte, opYZ 2 6 k.code]
  | .orIdx x d => [x.byte, 0xB6, d]
  | .orN n => [0xF6, n]
  | .cpR r => [opYZ 2 7 r.code]
  | .cpMem => [0xBE]
  | .cpHalf x k => [x.byte, opYZ 2 7 k.code]
  | .cpIdx x d => [x.byte, 0xBE, d]
  | .cpN n => [0xFE, n]
  | .retCc cc => [opYZ 3 cc.code 0]
  | .popRr p => [opPQ 3 p.code 0 1]
  | .popXy x => [x.byte, 0xE1]
  | .ret => [0xC9]
  | .exx => [0xD9]
  | .jpHl => [0xE9]
  | .jpXy x => [x.byte, 0xE9]
  | .ldSpHl => [0xF9]
  | .ldSpXy x => [x.byte, 0xF9]
  | .jpCc cc nn => [opYZ 3 cc.code 2, lo8 nn, hi8 nn]
  | .jp nn => [0xC3, lo8 nn, hi8 nn]
  | .outNA n => [0xD3, n]
  | .inAN n => [0xDB, n]
  | .exSpHl => [0xE3]
  | .exSpXy x => [x.byte, 0xE3]
  | .exDeHl => [0xEB]
  | .di => [0xF3]
  | .ei => [0xFB]
  | .callCc cc nn => [opYZ 3 cc.code 4, lo8 nn, hi8 nn]
  | .pushRr p => [opPQ 3 p.code 0 5]
  | .pushXy x => [x.byte, 0xE5]
  | .call nn => [0xCD, lo8 nn, hi8 nn]
  | .rst y => [opYZ 3 y 7]
  | .ignored x i => x.byte :: encode i
  | .rlcR r => [0xCB, opYZ 0 0 r.code]
  | .rlcMem => [0xCB, 0x06]
  | .rlcIdx x d => [x.byte, 0xCB, d, 0x06]
  | .rlcIdxR x d r => [x.byte, 0xCB, d, opYZ 0 0 r.code]
  | .rrcR r => [0xCB, opYZ 0 1 r.code]
  | .rrcMem => [0xCB, 0x0E]
  | .rrcIdx x d => [x.byte, 0xCB, d, 0x0E]
  | .rrcIdxR x d r => [x.byte, 0xCB, d, opYZ 0 1 r.code]
  | .rlR r => [0xCB, opYZ 0 2 r.code]
  | .rlMem => [0xCB, 0x16]
  | .rlIdx x d => [x.byte, 0xCB, d, 0x16]
  | .rlIdxR x d r => [x.byte, 0xCB, d, opYZ 0 2 r.code]
  | .rrR r => [0xCB, opYZ 0 3 r.code]
  | .rrMem => [0xCB, 0x1E]
  | .rrIdx x d => [x.byte, 0xCB, d, 0x1E]
  | .rrIdxR x d r => [x.byte, 0xCB, d, opYZ 0 3 r.code]
  | .slaR r => [0xCB, opYZ 0 4 r.code]
  | .slaMem => [0xCB, 0x26]
  | .slaIdx x d => [x.byte, 0xCB, d, 0x26]
  | .slaIdxR x d r => [x.byte, 0xCB, d, opYZ 0 4 r.code]
  | .sraR r => [0xCB, opYZ 0 5 r.code]
  | .sraMem => [0xCB, 0x2E]
  | .sraIdx x d => [x.byte, 0xCB, d, 0x2E]
  | .sraIdxR x d r => [x.byte, 0xCB, d, opYZ 0 5 r.code]
  | .sllR r => [0xCB, opYZ 0 6 r.code]
  | .sllMem => [0xCB, 0x36]
  | .sllIdx x d => [x.byte, 0xCB, d, 0x36]
  | .sllIdxR x d r => [x.byte, 0xCB, d, opYZ 0 6 r.code]
  | .srlR r => [0xCB, opYZ 0 7 r.code]
  | .srlMem => [0xCB, 0x3E]
  | .srlIdx x d => [x.byte, 0xCB, d, 0x3E]
  | .srlIdxR x d r => [x.byte, 0xCB, d, opYZ 0 7 r.code]
  | .bitR b r => [0xCB, opYZ 1 b r.code]
  | .bitMem b => [0xCB, opYZ 1 b 6]
  | .bitIdx x d b z => [x.byte, 0xCB, d, opYZ 1 b z]
  | .resR b r => [0xCB, opYZ 2 b r.code]
  | .resMem b => [0xCB, opYZ 2 b 6]
  | .resIdx x d b => [x.byte, 0xCB, d, opYZ 2 b 6]
  | .resIdxR x d b r => [x.byte, 0xCB, d, opYZ 2 b r.code]
  | .setR b r => [0xCB, opYZ 3 b r.code]
  | .setMem b => [0xCB, opYZ 3 b 6]
  | .setIdx x d b => [x.byte, 0xCB, d, opYZ 3 b 6]
  | .setIdxR x d b r => [x.byte, 0xCB, d, opYZ 3 b r.code]
  | .inRC r => [0xED, opYZ 1 r.code 0]
  | .inC => [0xED, 0x70]
  | .outCR r => [0xED, opYZ 1 r.code 1]
  | .outC0 => [0xED, 0x71]
  | .sbcHlRp p => [0xED, opPQ 1 p.code 0 2]
  | .adcHlRp p => [0xED, opPQ 1 p.code 1 2]
  | .ldMemRp p nn => [0xED, opPQ 1 p.code 0 3, lo8 nn, hi8 nn]
  | .ldRpMem p nn => [0xED, opPQ 1 p.code 1 3, lo8 nn, hi8 nn]
  | .neg y => [0xED, opYZ 1 y 4]
  | .retn y => [0xED, opYZ 1 y 5]
  | .reti => [0xED, 0x4D]
  | .im y => [0xED, opYZ 1 y 6]
  | .ldIA => [0xED, 0x47]
  | .ldRA => [0xED, 0x4F]
  | .ldAI => [0xED, 0x57]
  | .ldAR => [0xED, 0x5F]
  | .rrd => [0xED, 0x67]
  | .rld => [0xED, 0x6F]
  | .nopEd7 y0 => [0xED, opYZ 1 ((3 : BitVec 2) ++ y0) 7]
  | .holeX0 y z => [0xED, opYZ 0 y z]
  | .holeX3 y z => [0xED, opYZ 3 y z]
  | .holeX2LowY y2 z2 => [0xED, opYZ 2 ((0 : BitVec 1) ++ y2) ((0 : BitVec 1) ++ z2)]
  | .holeX2HighZ y z2 => [0xED, opYZ 2 y ((1 : BitVec 1) ++ z2)]
  | .ldi => [0xED, 0xA0]
  | .cpi => [0xED, 0xA1]
  | .ini => [0xED, 0xA2]
  | .outi => [0xED, 0xA3]
  | .ldd => [0xED, 0xA8]
  | .cpd => [0xED, 0xA9]
  | .ind => [0xED, 0xAA]
  | .outd => [0xED, 0xAB]
  | .ldir => [0xED, 0xB0]
  | .cpir => [0xED, 0xB1]
  | .inir => [0xED, 0xB2]
  | .otir => [0xED, 0xB3]
  | .lddr => [0xED, 0xB8]
  | .cpdr => [0xED, 0xB9]
  | .indr => [0xED, 0xBA]
  | .otdr => [0xED, 0xBB]

/-- The number of bytes of an instruction (R161). -/
def Instr.length (i : Instr) : Nat := (encode i).length

/-! ### The opcode table's own numbering of an instruction's bits. -/

/-- The `k` bytes of the number `w`, the most significant first. -/
def bytesHighFirst (w : Nat) : Nat → List Byte
  | 0 => []
  | k + 1 => BitVec.ofNat 8 (w >>> (8 * k)) :: bytesHighFirst w k

/-- A byte that begins a multi-byte opcode: one of the four prefixes (R141 to R143). -/
def isPrefixByte (b : Byte) : Bool := b == 0xCB || b == 0xDD || b == 0xED || b == 0xFD

/-- The bytes, in fetch order, of a row of `nbits` bits numbered as spec/opcode_table.json numbers them: R163 writes them as one
hexadecimal number with the byte fetched FIRST at the most significant end, and every row of more than one byte begins with a prefix. A
number whose most significant byte is no prefix is no row in that order, and is read with its first byte at the least significant end (log
entry 11). -/
def tableBytes (nbits w : Nat) : List Byte :=
  let bs := bytesHighFirst w (nbits / 8)
  match bs with
  | b :: _ :: _ => if isPrefixByte b then bs else bs.reverse
  | _ => bs

/-- The bytes of a table word as they lie in memory, with zero operand bytes after them: four, more than any row's operand bytes. -/
def tableWordBytes (nbits w : Nat) : List Byte := tableBytes nbits w ++ [0, 0, 0, 0]

/-- What the decoder reads from a table word (host name). -/
def decodeTableWord (nbits w : Nat) : Option Instr :=
  match decode (tableWordBytes nbits w) with
  | .ok i _ => some i
  | .truncated => none

end Sys2Proof
end

