-- ==== Sys2Proof/Machine/State.lean ====
section
/-! DEFINITION. Everything the spec gives the machine, as plain data (spec/10_state.md): the register file, the interrupt latches, the
decoder state, the active bus cycle, the pin bus, and beside them the model's own record of the other side of the bus (memory, ports)
and of the cycles of the current step. -/

namespace Sys2Proof.Machine

/-- `int_mode`, a value in 0, 1, 2 (R34); the value 3 cannot occur. -/
inductive IntMode where
  | im0 | im1 | im2
deriving DecidableEq, Repr

/-- The register file (R20 to R37): what a register inspection returns (R401). `aAlt` … `lAlt` are the shadow set (R21). -/
structure Regs where
  a : Byte
  f : Byte
  b : Byte
  c : Byte
  d : Byte
  e : Byte
  h : Byte
  l : Byte
  aAlt : Byte
  fAlt : Byte
  bAlt : Byte
  cAlt : Byte
  dAlt : Byte
  eAlt : Byte
  hAlt : Byte
  lAlt : Byte
  ix : Word
  iy : Word
  sp : Word
  pc : Word
  i : Byte
  r : Byte
  wz : Word
  instr : Byte
  iff1 : Bool
  iff2 : Bool
  im : IntMode
  q : Byte
  halted : Bool
deriving DecidableEq, Repr

/-- The active opcode table (R41). -/
inductive Subset where
  | none | cb | ed
deriving DecidableEq, Repr

/-- Which interrupt entry, if any, the armed OCF or INTA begins (R41, R374). -/
inductive Entry where
  | none | nmi | int
deriving DecidableEq, Repr

/-- The decoder state (R41). `step` is the position in the cycle sequence of the instruction being executed (R150). -/
structure Decoder where
  started : Bool
  modifier : Option XY
  subset : Subset
  x : BitVec 2
  y : BitVec 3
  z : BitVec 3
  step : Nat
  disp : Byte
  dispReady : Bool
  eaReady : Bool
  ddcbOp : Byte
  entry : Entry
deriving DecidableEq, Repr

/-- The coarse state of the core (R42). -/
inductive Mode where
  | reset | idleToFetch | running
deriving DecidableEq, Repr

/-- The kinds of bus cycle (R43). -/
inductive CycleKind where
  | fetch | memRead | memWrite | ioRead | ioWrite | intAck | filler
deriving DecidableEq, Repr

/-- The release sub-state of a cycle (R43, R110 to R113). -/
inductive Release where
  | none | pending | released | ending
deriving DecidableEq, Repr

/-- The active bus cycle (R43). `t` starts at -1; `addr` is the address to drive, and once the cycle runs the address it last
drove; `out` is the byte to write; `got` is the byte a read has
captured; `fillT` is a filler's number of T-states, of which `fillT - (t + 1)` remain. -/
structure Cycle where
  kind : CycleKind
  t : Int
  addr : Word
  out : Byte
  got : Byte
  fillT : Nat
  releaseStaged : Bool
  release : Release
deriving DecidableEq, Repr

/-- One level per pin (R44), `true` for electrically high; and, used a second time, one direction per pin, `true` for driven by the core. -/
structure PinVec where
  addr : Word
  data : Byte
  m1 : Bool
  mreq : Bool
  iorq : Bool
  rd : Bool
  wr : Bool
  rfsh : Bool
  halt : Bool
  int : Bool
  nmi : Bool
  wait : Bool
  busack : Bool
  busreq : Bool
  reset : Bool
deriving DecidableEq, Repr

/-- The Pin Bus: "state (level per pin) and dir (1 = CPU drives this pin, 0 = input)" (R44). -/
structure PinBus where
  level : PinVec
  dir : PinVec
deriving DecidableEq, Repr

/-- One bus cycle as the transaction level records it (R125). -/
inductive BusEvent where
  | fetch (addr : Word) (byte : Byte) (refresh : Word)
  | memRead (addr : Word) (byte : Byte)
  | memWrite (addr : Word) (byte : Byte)
  | ioRead (port : Word) (byte : Byte)
  | ioWrite (port : Word) (byte : Byte)
  | intAck (addr : Word) (byte : Byte) (refresh : Word)
  | filler (n : Nat)
deriving DecidableEq, Repr

/-- The memory behind the bus (log entry 1): cells at strictly rising addresses below 2^16, none holding the byte that an unlisted
address reads as. `Memory.wf` (Machine/Ops.lean) says so. -/
abbrev Memory := List Host.Cell

/-- What the pin level keeps while an instruction or an interrupt entry is in flight (log entry 8): the registers and the decoder state
it began with, the bytes its finished read cycles took from the data bus, oldest first, and the number of its finished cycles. -/
structure Flight where
  regs : Regs
  dec : Decoder
  got : List Byte
  cycles : Nat
deriving DecidableEq, Repr

/-- THE STATE.

From the spec: `regs` (R20 to R37), `nmiPending` (R38), `intLatch` (R39, the pin's level: `false` is asserted), `skipInt` and `skipNmi`
(R40), `dec` (R41), `mode` and `clk` (R42), `cycle` (R43), `pins` (R44).

The model's own: `flight`, see `Flight`; `mem`, the bytes memory read cycles return; `portIn`, the bytes that devices will give to I/O
reads, each with its port, oldest first; `portOut`, the bytes that I/O writes sent out with their ports, newest first; `intaIn`, the bytes
that devices will drive in interrupt-acknowledge cycles, oldest first; `dataIn`, bytes the host drives on the data bus in the coming read
cycles of EVERY kind, oldest first, in place of all the others; `freeCtr`, the index of the next free byte; `events`, the bus cycles of the
last transaction, newest first. -/
structure State where
  regs : Regs
  nmiPending : Bool
  intLatch : Bool
  skipInt : Bool
  skipNmi : Bool
  dec : Decoder
  mode : Mode
  clk : Bool
  cycle : Option Cycle
  pins : PinBus
  flight : Option Flight
  mem : Memory
  dataIn : List Byte
  portIn : List (Nat × Byte)
  portOut : List (Nat × Byte)
  intaIn : List Byte
  freeCtr : Nat
  events : List BusEvent
deriving DecidableEq, Repr

/-- Why the machine stops with a fault. -/
inductive Fault where
  /-- "Fatal programming-contract violation" (R115, R370): a half-edge reaches a core that is running with no active cycle, or a cycle that has
  already finished. Raised by `State.clock` (Machine/Clock.lean) alone, in states that no run reaches. SAFE: the model stops. -/
  | contractViolation
deriving DecidableEq, Repr

/-- Why the model gives no meaning. -/
inductive Refusal where
  /-- No meaning for this instruction. Raised by no arm of `exec`: every instruction has its meaning. SAFE. -/
  | notModelled (mnemonic : String)
  /-- Interrupt mode 0 with a byte that is not an RST opcode, under `IM0_NON_RST = refuse` (R382, D13). Raised by the INT entry
  (Machine/Interrupt.lean). SAFE: no claim is made about the run. -/
  | im0NonRst
  /-- A register injection in the middle of an instruction (R402, D22). Raised by `setRegisters` (Machine/HostCalls.lean). SAFE. -/
  | injectionMidInstruction
  /-- A register injection of `int_mode = 3` (R402). Raised by `setRegisters`. SAFE. -/
  | injectionIntMode3
deriving DecidableEq, Repr

/-- The outcome of a step or a meaning. -/
abbrev Out := Host.Outcome State Fault Refusal

/-- The register file on leaving reset (R47): AF = SP = 0xFFFF, everything else cleared. -/
def Regs.reset : Regs where
  a := 0xFF
  f := 0xFF
  b := 0
  c := 0
  d := 0
  e := 0
  h := 0
  l := 0
  aAlt := 0
  fAlt := 0
  bAlt := 0
  cAlt := 0
  dAlt := 0
  eAlt := 0
  hAlt := 0
  lAlt := 0
  ix := 0
  iy := 0
  sp := 0xFFFF
  pc := 0
  i := 0
  r := 0
  wz := 0
  instr := 0
  iff1 := false
  iff2 := false
  im := .im0
  q := 0
  halted := false

/-- The decoder state on leaving reset (R47): "started = 0, modifier = none, subset = none, entry = none"; the fields that R47 does
not list are cleared too (log entry 5). -/
def Decoder.reset : Decoder where
  started := false
  modifier := none
  subset := .none
  x := 0
  y := 0
  z := 0
  step := 0
  disp := 0
  dispReady := false
  eaReady := false
  ddcbOp := 0
  entry := .none

/-- A cycle as it is armed, with `t = -1` (R93). -/
def Cycle.armed (k : CycleKind) (addr : Word) (out : Byte) (fillT : Nat) : Cycle where
  kind := k
  t := -1
  addr := addr
  out := out
  got := 0
  fillT := fillT
  releaseStaged := false
  release := .none

/-- The directions in Reset and at power-on (R116): M1, RFSH, HALT and BUSACK are driven, everything else floats or is an input. -/
def PinVec.powerOnDir : PinVec where
  addr := 0
  data := 0
  m1 := true
  mreq := false
  iorq := false
  rd := false
  wr := false
  rfsh := true
  halt := true
  int := false
  nmi := false
  wait := false
  busack := true
  busreq := false
  reset := false

/-- The levels at power-on: the four driven outputs are high (R116). The other levels are the host's; this value has every control line
high (inactive, R417) and the address and data lines low (log entry 6). -/
def PinVec.idleLevels : PinVec where
  addr := 0
  data := 0
  m1 := true
  mreq := true
  iorq := true
  rd := true
  wr := true
  rfsh := true
  halt := true
  int := true
  nmi := true
  wait := true
  busack := true
  busreq := true
  reset := true

/-- THE MACHINE RIGHT AFTER RESET (R47, R117, R411): the registers at their reset values, mode Running with a Fetch armed (`t = -1`), so that
the next step, or the next rising edge, begins the fetch at 0x0000. Memory lists nothing and the host has supplied nothing (log entries 1
and 2); the RESET pin is high again. -/
def State.reset : State where
  regs := .reset
  nmiPending := false
  intLatch := true
  skipInt := false
  skipNmi := false
  dec := .reset
  mode := .running
  clk := false
  cycle := some (.armed .fetch 0 0 0)
  pins := ⟨.idleLevels, .powerOnDir⟩
  flight := none
  mem := []
  dataIn := []
  portIn := []
  portOut := []
  intaIn := []
  freeCtr := 0
  events := []

/-- The machine at power-on, before any reset: mode Reset, `clk = 0`, the power-on pin pattern and no cycle (R412, D4, D5). "No register
value exists before the first reset completes" (R412): the register file here is a placeholder that leaving Reset overwrites and that an
inspection in Reset does not show. -/
def State.powerOn : State :=
  { State.reset with mode := .reset, cycle := none }

end Sys2Proof.Machine
end

