-- ==== Sys2Proof/Machine/Operands.lean ====
section
/-! DEFINITION. The operand forms (spec/30_encoding.md R145 to R148, R154): registers, their halves and pairs, index registers and
conditions, read and written through one accessor each. Memory operands are addresses, read and written by Machine/Ops.lean. -/

namespace Sys2Proof.Machine

/-- `AF = A:F` (R20). -/
def Regs.af (r : Regs) : Word := mk16 r.a r.f
/-- `BC = B:C` (R20). -/
def Regs.bc (r : Regs) : Word := mk16 r.b r.c
/-- `DE = D:E` (R20). -/
def Regs.de (r : Regs) : Word := mk16 r.d r.e
/-- `HL = H:L` (R20). -/
def Regs.hl (r : Regs) : Word := mk16 r.h r.l
/-- The refresh address `I:R` (R30). -/
def Regs.ir (r : Regs) : Word := mk16 r.i r.r

/-- Write AF: both halves (R10). -/
def Regs.setAf (r : Regs) (w : Word) : Regs := { r with a := hi8 w, f := lo8 w }
/-- Write BC: both halves (R10). -/
def Regs.setBc (r : Regs) (w : Word) : Regs := { r with b := hi8 w, c := lo8 w }
/-- Write DE: both halves (R10). -/
def Regs.setDe (r : Regs) (w : Word) : Regs := { r with d := hi8 w, e := lo8 w }
/-- Write HL: both halves (R10). -/
def Regs.setHl (r : Regs) (w : Word) : Regs := { r with h := hi8 w, l := lo8 w }

/-- Read `r8[n]` (R145). -/
def Regs.getR8 (r : Regs) : R8 → Byte
  | .b => r.b | .c => r.c | .d => r.d | .e => r.e | .h => r.h | .l => r.l | .a => r.a

/-- Write `r8[n]` (R145). -/
def Regs.setR8 (r : Regs) (k : R8) (v : Byte) : Regs :=
  match k with
  | .b => { r with b := v } | .c => { r with c := v } | .d => { r with d := v } | .e => { r with e := v }
  | .h => { r with h := v } | .l => { r with l := v } | .a => { r with a := v }

/-- Read IX or IY (R141). -/
def Regs.getXy (r : Regs) : XY → Word
  | .ix => r.ix | .iy => r.iy

/-- Write IX or IY (R141). -/
def Regs.setXy (r : Regs) (x : XY) (w : Word) : Regs :=
  match x with
  | .ix => { r with ix := w } | .iy => { r with iy := w }

/-- Read XYH or XYL (R22, R146). -/
def Regs.getHalf (r : Regs) (x : XY) : Half → Byte
  | .hi => hi8 (r.getXy x) | .lo => lo8 (r.getXy x)

/-- Write XYH or XYL; the other half is kept (R10, R22). -/
def Regs.setHalf (r : Regs) (x : XY) (k : Half) (v : Byte) : Regs :=
  match k with
  | .hi => r.setXy x (mk16 v (lo8 (r.getXy x)))
  | .lo => r.setXy x (mk16 (hi8 (r.getXy x)) v)

/-- Read `r8[n]` under an index modifier (R146). -/
def Regs.getR8X (r : Regs) (x : XY) : R8X → Byte
  | .b => r.b | .c => r.c | .d => r.d | .e => r.e | .xh => r.getHalf x .hi | .xl => r.getHalf x .lo | .a => r.a

/-- Write `r8[n]` under an index modifier (R146). -/
def Regs.setR8X (r : Regs) (x : XY) (k : R8X) (v : Byte) : Regs :=
  match k with
  | .b => { r with b := v } | .c => { r with c := v } | .d => { r with d := v } | .e => { r with e := v }
  | .xh => r.setHalf x .hi v | .xl => r.setHalf x .lo v | .a => { r with a := v }

/-- Read `rp[p]` (R147). -/
def Regs.getRp (r : Regs) : RP → Word
  | .bc => r.bc | .de => r.de | .hl => r.hl | .sp => r.sp

/-- Write `rp[p]` (R147). -/
def Regs.setRp (r : Regs) (p : RP) (w : Word) : Regs :=
  match p with
  | .bc => r.setBc w | .de => r.setDe w | .hl => r.setHl w | .sp => { r with sp := w }

/-- Read `rp[p]` under an index modifier, where code 2 is XY itself (R141, R206). -/
def Regs.getRpXy (r : Regs) (x : XY) : RP → Word
  | .bc => r.bc | .de => r.de | .hl => r.getXy x | .sp => r.sp

/-- Read `rp2[p]` (R147). -/
def Regs.getRp2 (r : Regs) : RP2 → Word
  | .bc => r.bc | .de => r.de | .hl => r.hl | .af => r.af

/-- Write `rp2[p]` (R147). -/
def Regs.setRp2 (r : Regs) (p : RP2) (w : Word) : Regs :=
  match p with
  | .bc => r.setBc w | .de => r.setDe w | .hl => r.setHl w | .af => r.setAf w

/-- The pair of LD (rr),A and LD A,(rr) (R207, R210). -/
def Regs.getBcDe (r : Regs) : BcDe → Word
  | .bc => r.bc | .de => r.de

/-- The bit positions of the flags in F (R24). -/
def flagS (f : Byte) : Bool := f.getLsbD 7
/-- Bit 6: zero (R24). -/
def flagZ (f : Byte) : Bool := f.getLsbD 6
/-- Bit 5: undocumented (R24). -/
def flag5 (f : Byte) : Bool := f.getLsbD 5
/-- Bit 4: half carry (R24). -/
def flagH (f : Byte) : Bool := f.getLsbD 4
/-- Bit 3: undocumented (R24). -/
def flag3 (f : Byte) : Bool := f.getLsbD 3
/-- Bit 2: parity or overflow (R24). -/
def flagPV (f : Byte) : Bool := f.getLsbD 2
/-- Bit 1: subtract (R24). -/
def flagN (f : Byte) : Bool := f.getLsbD 1
/-- Bit 0: carry (R24). -/
def flagC (f : Byte) : Bool := f.getLsbD 0

/-- The test a condition makes on F (R148). -/
def condHolds (cc : Cond) (f : Byte) : Bool :=
  match cc with
  | .nz => !flagZ f | .z => flagZ f | .nc => !flagC f | .c => flagC f
  | .po => !flagPV f | .pe => flagPV f | .p => !flagS f | .m => flagS f

/-- JR's condition as a condition of the table: `cc[y-4]` (R148). -/
def jrCondition : JrCond → Cond
  | .nz => .nz | .z => .z | .nc => .nc | .c => .c

/-- The indexed effective address `ea = XY + sext_16(d)`, modulo 2^16 (R153, R154). -/
def Regs.ea (r : Regs) (x : XY) (d : Byte) : Word := r.getXy x + sext16 d

end Sys2Proof.Machine
end

