-- ==== Sys2Proof/Machine/Flags.lean ====
section
/-! DEFINITION. Every flag computation of the spec (spec/40_alu_flags.md, spec/44_cb.md R308, spec/45_ed.md, spec/46_ed_block.md): functions
from operand bytes and the old F to the result and the new flags. They touch no state. -/

namespace Sys2Proof.Machine

/-- The eight flags by name (R24): `y` is F5 and `x` is F3. -/
structure Flags where
  s : Bool
  z : Bool
  y : Bool
  h : Bool
  x : Bool
  pv : Bool
  n : Bool
  c : Bool
deriving DecidableEq, Repr

/-- The flag byte: S Z F5 H F3 P/V N C from bit 7 down (R24). -/
def Flags.toByte (f : Flags) : Byte :=
  BitVec.ofBool f.s ++ BitVec.ofBool f.z ++ BitVec.ofBool f.y ++ BitVec.ofBool f.h ++
    BitVec.ofBool f.x ++ BitVec.ofBool f.pv ++ BitVec.ofBool f.n ++ BitVec.ofBool f.c

/-- The flags in a flag byte (R24). -/
def Flags.ofByte (f : Byte) : Flags where
  s := flagS f
  z := flagZ f
  y := flag5 f
  h := flagH f
  x := flag3 f
  pv := flagPV f
  n := flagN f
  c := flagC f

/-- `parity(v)`: true when `v` has an even number of 1 bits (R170). -/
def parity (v : Byte) : Bool :=
  !(v.getLsbD 0 ^^ v.getLsbD 1 ^^ v.getLsbD 2 ^^ v.getLsbD 3 ^^ v.getLsbD 4 ^^ v.getLsbD 5 ^^ v.getLsbD 6 ^^ v.getLsbD 7)

/-- `sz53(v)`: S, Z, F5 and F3 from `v`, the other flags from `f` (R170). -/
def sz53 (v : Byte) (f : Flags) : Flags :=
  { f with s := v.getLsbD 7, z := v == 0, y := v.getLsbD 5, x := v.getLsbD 3 }

/-- `sz53p(v)`: `sz53(v)` with P/V = parity (R170). -/
def sz53p (v : Byte) (f : Flags) : Flags := { sz53 v f with pv := parity v }

/-- The overflow of an 8-bit addition: "the operands have the same sign and the result's sign differs" (R172). -/
def addOverflow (a b res : Byte) : Bool := ((a ^^^ ~~~b) &&& (a ^^^ res)).getLsbD 7

/-- The overflow of an 8-bit subtraction: "the operands have different signs and the result's sign differs from A's" (R174). -/
def subOverflow (a b res : Byte) : Bool := ((a ^^^ b) &&& (a ^^^ res)).getLsbD 7

/-- ADD and ADC with carry input `cin` (R172, R173). -/
def add8 (a b : Byte) (cin : Bool) : Byte × Flags :=
  let r := a.toNat + b.toNat + bit01 cin
  let res := BitVec.ofNat 8 r
  (res, {
    s := res.getLsbD 7
    z := res == 0
    y := res.getLsbD 5
    h := decide (lowNibble a + lowNibble b + bit01 cin > 0xF)
    x := res.getLsbD 3
    pv := addOverflow a b res
    n := false
    c := decide (r > 0xFF) })

/-- SUB and SBC with carry input `cin` (R174, R175); the difference is read as a signed integer. -/
def sub8 (a b : Byte) (cin : Bool) : Byte × Flags :=
  let r : Int := (a.toNat : Int) - b.toNat - bit01 cin
  let res := BitVec.ofInt 8 r
  (res, {
    s := res.getLsbD 7
    z := res == 0
    y := res.getLsbD 5
    h := decide ((lowNibble a : Int) - lowNibble b - bit01 cin < 0)
    x := res.getLsbD 3
    pv := subOverflow a b res
    n := true
    c := decide (r < 0) })

/-- The flags of AND, OR and XOR on their result, with the given H (R176 to R178). -/
def logicFlags (res : Byte) (h : Bool) : Flags :=
  sz53p res { s := false, z := false, y := false, h := h, x := false, pv := false, n := false, c := false }

/-- CP: the flags of SUB, with F5 and F3 from the operand (R179). -/
def cpFlags (a b : Byte) : Flags := { (sub8 a b false).2 with y := b.getLsbD 5, x := b.getLsbD 3 }

/-- `alu8(op, b)`: the new A and the new flags (R171 to R180). -/
def alu8 (op : AluOp) (a b : Byte) (cin : Bool) : Byte × Flags :=
  match op with
  | .add => add8 a b false
  | .adc => add8 a b cin
  | .sub => sub8 a b false
  | .sbc => sub8 a b cin
  | .and => (a &&& b, logicFlags (a &&& b) true)
  | .xor => (a ^^^ b, logicFlags (a ^^^ b) false)
  | .or => (a ||| b, logicFlags (a ||| b) false)
  | .cp => (a, cpFlags a b)

/-- `inc8(v)` (R181); C is unchanged. -/
def inc8 (v : Byte) (f : Flags) : Byte × Flags :=
  let res := v + 1
  (res, { sz53 res f with h := lowNibble v == 0xF, pv := v == 0x7F, n := false })

/-- `dec8(v)` (R181); C is unchanged. -/
def dec8 (v : Byte) (f : Flags) : Byte × Flags :=
  let res := v - 1
  (res, { sz53 res f with h := lowNibble v == 0, pv := v == 0x80, n := true })

/-- `v[6:0] : b`: a shift left that brings in `b`. -/
def shiftLeftIn (v : Byte) (b : Bool) : Byte := v.extractLsb' 0 7 ++ BitVec.ofBool b

/-- `b : v[7:1]`: a shift right that brings in `b`. -/
def shiftRightIn (b : Bool) (v : Byte) : Byte := BitVec.ofBool b ++ v.extractLsb' 1 7

/-- The table of R182: the result and the bit shifted out. -/
def rotShift (op : RotOp) (v : Byte) (cin : Bool) : Byte × Bool :=
  match op with
  | .rlc => (shiftLeftIn v (v.getLsbD 7), v.getLsbD 7)
  | .rrc => (shiftRightIn (v.getLsbD 0) v, v.getLsbD 0)
  | .rl => (shiftLeftIn v cin, v.getLsbD 7)
  | .rr => (shiftRightIn cin v, v.getLsbD 0)
  | .sla => (shiftLeftIn v false, v.getLsbD 7)
  | .sra => (shiftRightIn (v.getLsbD 7) v, v.getLsbD 0)
  | .sll => (shiftLeftIn v true, v.getLsbD 7)
  | .srl => (shiftRightIn false v, v.getLsbD 0)

/-- `rot(y, v)`: `sz53p(res)`, H = 0, N = 0, C = co (R182). -/
def rot8 (op : RotOp) (v : Byte) (f : Flags) : Byte × Flags :=
  let (res, co) := rotShift op v f.c
  (res, { sz53p res f with h := false, n := false, c := co })

/-- RLCA, RRCA, RLA, RRA: S, Z and P/V unchanged, F5 and F3 from the result, H = N = 0, C = co (R183). -/
def rotA (op : RotOp) (a : Byte) (f : Flags) : Byte × Flags :=
  let (res, co) := rotShift op a f.c
  (res, { f with y := res.getLsbD 5, x := res.getLsbD 3, h := false, n := false, c := co })

/-- `add16(a, b)`: S, Z and P/V unchanged (R184). -/
def add16 (a b : Word) (f : Flags) : Word × Flags :=
  let r := a.toNat + b.toNat
  let res := BitVec.ofNat 16 r
  (res, { f with
    y := res.getLsbD 13
    x := res.getLsbD 11
    h := decide (low12 a + low12 b > 0xFFF)
    n := false
    c := decide (r > 0xFFFF) })

/-- `adc16(a, b)` (R185). -/
def adc16 (a b : Word) (cin : Bool) : Word × Flags :=
  let r := a.toNat + b.toNat + bit01 cin
  let res := BitVec.ofNat 16 r
  (res, {
    s := res.getLsbD 15
    z := res == 0
    y := res.getLsbD 13
    h := decide (low12 a + low12 b + bit01 cin > 0xFFF)
    x := res.getLsbD 11
    pv := ((a ^^^ ~~~b) &&& (a ^^^ res)).getLsbD 15
    n := false
    c := decide (r > 0xFFFF) })

/-- `sbc16(a, b)`; the difference is read as a signed integer (R186). -/
def sbc16 (a b : Word) (cin : Bool) : Word × Flags :=
  let r : Int := (a.toNat : Int) - b.toNat - bit01 cin
  let res := BitVec.ofInt 16 r
  (res, {
    s := res.getLsbD 15
    z := res == 0
    y := res.getLsbD 13
    h := decide ((low12 a : Int) - low12 b - bit01 cin < 0)
    x := res.getLsbD 11
    pv := ((a ^^^ b) &&& (a ^^^ res)).getLsbD 15
    n := true
    c := decide (r < 0) })

/-- `daa()` (R187). -/
def daa8 (a : Byte) (f : Flags) : Byte × Flags :=
  let low : Byte := if f.h || decide (lowNibble a > 9) then 0x06 else 0
  let high : Byte := if f.c || decide (a.toNat > 0x99) then 0x60 else 0
  let diff := low ||| high
  let cout := f.c || decide (a.toNat > 0x99)
  let res := if f.n then a - diff else a + diff
  let h := if f.n then f.h && decide (lowNibble a < 6) else decide (lowNibble a > 9)
  (res, { sz53p res f with h := h, c := cout })

/-- `neg()`: `alu8(SUB, b)` with A = 0 (R188). -/
def neg8 (a : Byte) : Byte × Flags := alu8 .sub 0 a false

/-- CPL: S, Z, P/V and C unchanged, F5 and F3 from the new A, H = N = 1 (R234). -/
def cpl8 (a : Byte) (f : Flags) : Byte × Flags :=
  let res := ~~~a
  (res, { f with y := res.getLsbD 5, x := res.getLsbD 3, h := true, n := true })

/-- `(Q ^ F) | A`, where SCF and CCF take F5 and F3 from (R36). -/
def scfSource (q f a : Byte) : Byte := (q ^^^ f) ||| a

/-- SCF (R235). -/
def scfFlags (q fb a : Byte) : Flags :=
  { Flags.ofByte fb with
    y := (scfSource q fb a).getLsbD 5
    x := (scfSource q fb a).getLsbD 3
    h := false
    n := false
    c := true }

/-- CCF: H takes the old C (R236). -/
def ccfFlags (q fb a : Byte) : Flags :=
  { Flags.ofByte fb with
    y := (scfSource q fb a).getLsbD 5
    x := (scfSource q fb a).getLsbD 3
    h := flagC fb
    n := false
    c := !flagC fb }

/-- BIT: Z = P/V = !t, S = t when b = 7, H = 1, N = 0, C unchanged; F5 and F3 from `src`, the byte the form names (R308). -/
def bitFlags (b : BitVec 3) (v src : Byte) (f : Flags) : Flags :=
  let t := v.getLsbD b.toNat
  { f with s := t && b == 7, z := !t, y := src.getLsbD 5, h := true, x := src.getLsbD 3, pv := !t, n := false }

/-- IN r,(C) and IN (C), RRD and RLD: `sz53p(v)`, H = 0, N = 0, C unchanged (R320, R334). -/
def inFlags (v : Byte) (f : Flags) : Flags := { sz53p v f with h := false, n := false }

/-- LD A,I and LD A,R: S, Z, F5 and F3 from the new A, H = 0, P/V = IFF2, N = 0, C unchanged (R333). -/
def ldAirFlags (v : Byte) (iff2 : Bool) (f : Flags) : Flags := { sz53 v f with h := false, pv := iff2, n := false }

/-- LDI, LDD, LDIR, LDDR, with BC after its decrement (R351): F5 and F3 from bits 1 and 3 of `v + A`. -/
def ldBlockFlags (v a : Byte) (bc : Word) (f : Flags) : Flags :=
  let n := v + a
  { f with y := n.getLsbD 1, h := false, x := n.getLsbD 3, pv := bc != 0, n := false }

/-- CPI, CPD, CPIR, CPDR, with BC after its decrement (R355): F5 and F3 from bits 1 and 3 of `A - v - H`. -/
def cpBlockFlags (a v : Byte) (bc : Word) (f : Flags) : Flags :=
  let r := a - v
  let h := decide (lowNibble a < lowNibble v)
  let n := r - BitVec.ofNat 8 (bit01 h)
  { f with s := r.getLsbD 7, z := r == 0, y := n.getLsbD 1, h := h, x := n.getLsbD 3, pv := bc != 0, n := true }

/-- The block input and output instructions, with B after its decrement and the sum `k` of their rule (R359 to R366, and the lists before
them). -/
def ioBlockFlags (b v : Byte) (k : Nat) : Flags where
  s := b.getLsbD 7
  z := b == 0
  y := b.getLsbD 5
  h := decide (k > 255)
  x := b.getLsbD 3
  pv := parity (BitVec.ofNat 8 (k % 8) ^^^ b)
  n := v.getLsbD 7
  c := decide (k > 255)

end Sys2Proof.Machine
end

