-- ==== Sys2Proof/Machine/Ops.lean ====
section
/-! DEFINITION. The named operations over memory, ports and registers that the meanings are written in: one per bus cycle of
spec/00_scope.md R11, the stack, the indexed address, taking an interrupt and returning from one, and retirement's Q. -/

namespace Sys2Proof.Machine

/-! ### Memory (spec/20_memory.md R80, R83, R85) -/

/-- What an address that memory does not list reads as (log entry 2; "Memory not listed is 0", spec/95_test_vectors.md). -/
def unlistedByte : Byte := 0

/-- The byte at an address. -/
def Memory.read : Memory → Nat → Byte
  | [], _ => unlistedByte
  | (k, v) :: rest, a => if k = a then v else Memory.read rest a

/-- Store a byte, keeping the canonical form: the unlisted byte removes the cell. -/
def Memory.write : Memory → Nat → Byte → Memory
  | [], a, v => if v = unlistedByte then [] else [(a, v)]
  | (k, w) :: rest, a, v =>
    if a < k then (if v = unlistedByte then (k, w) :: rest else (a, v) :: (k, w) :: rest)
    else if a = k then (if v = unlistedByte then rest else (a, v) :: rest)
    else (k, w) :: Memory.write rest a v

/-- The canonical form, above the address `lo`: strictly rising addresses below 2^16 and no cell holding the unlisted byte. -/
def Memory.wfFrom (lo : Nat) : Memory → Bool
  | [] => true
  | (k, v) :: rest => decide (lo ≤ k) && decide (k < 65536) && v != unlistedByte && Memory.wfFrom (k + 1) rest

/-- The canonical form of memory. -/
def Memory.wf (m : Memory) : Bool := Memory.wfFrom 0 m

/-- Store bytes at rising addresses from `a`, modulo 2^16. -/
def Memory.writeList (m : Memory) (a : Word) : List Byte → Memory
  | [] => m
  | v :: vs => Memory.writeList (m.write a.toNat v) (a + 1) vs

/-! ### The data bus in a read cycle (R14, R87) -/

/-- The spaces a read cycle may address (R80 to R82). -/
inductive ReadKind where
  | mem | io | inta
deriving DecidableEq, Repr

/-- The first waiting byte of a port and the list without it. -/
def takePort (p : Nat) : List (Nat × Byte) → Option (Byte × List (Nat × Byte))
  | [] => none
  | (k, v) :: rest =>
    if k = p then some (v, rest)
    else match takePort p rest with
      | some (w, rest2) => some (w, (k, v) :: rest2)
      | none => none

/-- The byte on the data bus when a read cycle of kind `k` at address `a` samples it: what the host has scripted, if anything; else, for
memory, the stored byte; else the byte waiting at the port or at the interrupting device; else a free byte (log entries 1 and 3). -/
def State.busByte (s : State) (k : ReadKind) (a : Word) : Byte :=
  match s.dataIn with
  | v :: _ => v
  | [] => match k with
    | .mem => s.mem.read a.toNat
    | .io => match takePort a.toNat s.portIn with
      | some (v, _) => v
      | none => Config.freeByte s.freeCtr
    | .inta => match s.intaIn with
      | v :: _ => v
      | [] => Config.freeByte s.freeCtr

/-- No byte is waiting for such a read, so that the bus gives a free byte (log entry 3). -/
def State.busFree (s : State) (k : ReadKind) (a : Word) : Bool :=
  s.dataIn.isEmpty && match k with
    | .mem => false
    | .io => (takePort a.toNat s.portIn).isNone
    | .inta => s.intaIn.isEmpty

/-- The state after that byte is taken: the list it came from is one shorter, or the next free byte is another one. -/
def State.busTaken (s : State) (k : ReadKind) (a : Word) : State :=
  { s with
    dataIn := s.dataIn.tail
    portIn := match s.dataIn, k, takePort a.toNat s.portIn with
      | [], .io, some (_, rest) => rest
      | _, _, _ => s.portIn
    intaIn := match s.dataIn, k with
      | [], .inta => s.intaIn.tail
      | _, _ => s.intaIn
    freeCtr := if s.busFree k a then s.freeCtr + 1 else s.freeCtr }

/-! ### Bus cycles (R11, R125) -/

/-- Record a bus cycle. -/
def State.record (s : State) (e : BusEvent) : State := { s with events := e :: s.events }

/-- Replace the register file. -/
def State.setRegs (s : State) (r : Regs) : State := { s with regs := r }

/-- The state after `MR(a)`. -/
def State.afterRead (s : State) (a : Word) : State :=
  (s.busTaken .mem a).record (.memRead a (s.busByte .mem a))

/-- `MR(a)`: go on with the byte read (R98). -/
def State.readMem {α : Type} (s : State) (a : Word) (k : Byte → State → α) : α :=
  k (s.busByte .mem a) (s.afterRead a)

/-- `MW(a, v)` (R99). -/
def State.writeMem (s : State) (a : Word) (v : Byte) : State :=
  { s with mem := s.mem.write a.toNat v, events := .memWrite a v :: s.events }

/-- The state after `IOR(a)`. -/
def State.afterIn (s : State) (a : Word) : State :=
  (s.busTaken .io a).record (.ioRead a (s.busByte .io a))

/-- `IOR(a)`: go on with the byte read (R100). -/
def State.readPort {α : Type} (s : State) (a : Word) (k : Byte → State → α) : α :=
  k (s.busByte .io a) (s.afterIn a)

/-- `IOW(a, v)` (R101). -/
def State.writePort (s : State) (a : Word) (v : Byte) : State :=
  { s with portOut := (a.toNat, v) :: s.portOut, events := .ioWrite a v :: s.events }

/-- `F(n)` (R103). -/
def State.fill (s : State) (n : Nat) : State := s.record (.filler n)

/-- The register changes of a fetch's refresh phase (R29, R96, R97): `instr` takes the byte, or 0 while halted; R counts; PC moves on
unless halted. -/
def Regs.fetched (r : Regs) (v : Byte) : Regs :=
  { r with
    instr := if r.halted then 0 else v
    r := refreshInc r.r
    pc := if r.halted then r.pc else r.pc + 1 }

/-- `OCF`: an opcode fetch at PC with its refresh at I:R (R96, R97). -/
def State.ocf (s : State) : State :=
  let v := s.busByte .mem s.regs.pc
  ((s.busTaken .mem s.regs.pc).record (.fetch s.regs.pc v s.regs.ir)).setRegs (s.regs.fetched v)

/-- `INTA`: go on with the byte the device drives; the refresh counts, PC does not move (R102). -/
def State.inta {α : Type} (s : State) (k : Byte → State → α) : α :=
  let v := s.busByte .inta s.regs.pc
  k v (((s.busTaken .inta s.regs.pc).record (.intAck s.regs.pc v s.regs.ir)).setRegs { s.regs with r := refreshInc s.regs.r })

/-- A 16-bit memory read: low byte at `a`, high byte at `a + 1` (R11, R83). -/
def State.read16 {α : Type} (s : State) (a : Word) (k : Word → State → α) : α :=
  s.readMem a fun lo s => s.readMem (a + 1) fun hi s => k (mk16 hi lo) s

/-- A 16-bit memory write: low byte at `a`, then high byte at `a + 1` (R11, R83). -/
def State.write16 (s : State) (a v : Word) : State := (s.writeMem a (lo8 v)).writeMem (a + 1) (hi8 v)

/-! ### Registers and the stack -/

/-- Write WZ (R31). -/
def State.setWz (s : State) (w : Word) : State := s.setRegs { s.regs with wz := w }

/-- Write PC (R11). -/
def State.setPc (s : State) (w : Word) : State := s.setRegs { s.regs with pc := w }

/-- A jump that also writes WZ. -/
def State.jump (s : State) (w : Word) : State := s.setRegs { s.regs with pc := w, wz := w }

/-- `push(v)`: the high byte at SP-1 and then the low byte at SP-2 (R83, spec/43_main_x3.md head). -/
def State.push (s : State) (v : Word) : State :=
  let sp := s.regs.sp
  ((s.writeMem (sp - 1) (hi8 v)).writeMem (sp - 2) (lo8 v)).setRegs { s.regs with sp := sp - 2 }

/-- `pop()`: the low byte at SP and then the high byte at SP+1 (R83, spec/43_main_x3.md head). -/
def State.pop {α : Type} (s : State) (k : Word → State → α) : α :=
  s.read16 s.regs.sp fun v s => k v (s.setRegs { s.regs with sp := s.regs.sp + 2 })

/-- The decoder state once the indexed address is computed, after its filler: `ea_ready` is 1 (R154). In the DDCB and FDCB forms the kept operation
byte is decoded now: "read d, read ddcb_op, F(2) per rule R144; b <- ddcb_op", then x, y, z, `step` and `started` (R150). -/
def Decoder.eaComputed (d : Decoder) : Decoder :=
  if d.subset = .cb ∧ d.started = false then
    { d with eaReady := true, x := fieldX d.ddcbOp, y := fieldY d.ddcbOp, z := fieldZ d.ddcbOp, step := 0, started := true }
  else { d with eaReady := true }

/-- The indexed effective address: `ea`, WZ = ea and `n` filler T-states (R154). -/
def State.indexed {α : Type} (s : State) (x : XY) (d : Byte) (n : Nat) (k : Word → State → α) : α :=
  let ea := s.regs.ea x d
  k ea ({ s.setWz ea with dec := s.dec.eaComputed }.fill n)

/-! ### Taking an interrupt and returning from one (spec/60_exceptions.md) -/

/-- The part that the NMI entry and every INT entry share: F(1), then the return PC is pushed, high byte at the higher address (R379,
R380). Only the PC is saved. -/
def State.pushReturn (s : State) : State := (s.fill 1).push s.regs.pc

/-- The end of an entry: PC and WZ take the handler's address and Q is 0 (R379, R380). -/
def State.enterHandler (s : State) (target : Word) : State :=
  s.setRegs { s.regs with pc := target, wz := target, q := 0 }

/-- The return that RETN and RETI share: PC is popped, WZ takes it, and IFF1 takes IFF2 (R328, R336, R391). -/
def State.returnFromInterrupt (s : State) : State :=
  s.pop fun v s => s.setRegs { s.regs with pc := v, wz := v, iff1 := s.regs.iff2 }

/-! ### The end of a meaning: Q (R35, R155) -/

/-- An instruction that writes no flag, and POP AF and EX AF,AF': Q = 0. -/
def State.done (s : State) : Out := .next (s.setRegs { s.regs with q := 0 })

/-- An instruction that writes the flags `f`: F and Q take them. -/
def State.doneFlags (s : State) (f : Flags) : Out := .next (s.setRegs { s.regs with f := f.toByte, q := f.toByte })

/-- The current flags by name. -/
def State.flags (s : State) : Flags := Flags.ofByte s.regs.f

/-- Go on with the next state of an outcome; a fault or a refusal stays. -/
def andThen (o : Out) (k : State → Out) : Out :=
  match o with
  | .next s => k s
  | .fault r => .fault r
  | .refused r => .refused r

end Sys2Proof.Machine
end

