-- ==== Sys2Proof/Machine/MainX0.lean ====
section
/-! DEFINITION. The meanings of the main table's quadrant x = 0 with their DD/FD forms (spec/41_main_x0.md). A meaning starts where the
instruction's own bytes have been fetched: PC is the address after them (spec/10_state.md R26). -/

namespace Sys2Proof.Machine

/-- NOP (R200). -/
def execNop (s : State) : Out := s.done

/-- EX AF,AF' (R201). For Q this is no flag write (R35). -/
def execExAfAf (s : State) : Out :=
  (s.setRegs { s.regs with a := s.regs.aAlt, f := s.regs.fAlt, aAlt := s.regs.a, fAlt := s.regs.f }).done

/-- The relative jump: the target is PC plus the signed displacement, after F(5) (R153, R203). -/
def State.jumpRel (s : State) (e : Byte) : State := (s.fill 5).jump (s.regs.pc + sext16 e)

/-- DJNZ e (R202). Its F(1) comes before the operand byte, in the fetch (Machine/Fetch.lean). -/
def execDjnz (e : Byte) (s : State) : Out :=
  let b := s.regs.b - 1
  let s := s.setRegs { s.regs with b := b }
  if b = 0 then s.done else (s.jumpRel e).done

/-- JR e (R203). -/
def execJr (e : Byte) (s : State) : Out := (s.jumpRel e).done

/-- JR cc,e (R204). -/
def execJrCc (cc : JrCond) (e : Byte) (s : State) : Out :=
  if condHolds (jrCondition cc) s.regs.f then (s.jumpRel e).done else s.done

/-- LD rp,nn (R205). -/
def execLdRpNn (p : RP) (nn : Word) (s : State) : Out := (s.setRegs (s.regs.setRp p nn)).done

/-- LD XY,nn (R205). -/
def execLdXyNn (x : XY) (nn : Word) (s : State) : Out := (s.setRegs (s.regs.setXy x nn)).done

/-- ADD HL,rp (R206). -/
def execAddHlRp (p : RP) (s : State) : Out :=
  let hl := s.regs.hl
  let (res, fl) := add16 hl (s.regs.getRp p) s.flags
  ((s.fill 7).setRegs { s.regs.setHl res with wz := hl + 1 }).doneFlags fl

/-- ADD XY,rp, where code 2 is XY itself (R206). -/
def execAddXyRp (x : XY) (p : RP) (s : State) : Out :=
  let xy := s.regs.getXy x
  let (res, fl) := add16 xy (s.regs.getRpXy x p) s.flags
  ((s.fill 7).setRegs { s.regs.setXy x res with wz := xy + 1 }).doneFlags fl

/-- `A : ((w + 1) mod 256)`: the WZ of the stores and of OUT (n),A (R190, D1). -/
def Regs.wzWithA (r : Regs) (w : Word) : Word := mk16 r.a (lo8 w + 1)

/-- LD (BC),A and LD (DE),A (R207). -/
def execLdPairA (p : BcDe) (s : State) : Out :=
  let a := s.regs.getBcDe p
  ((s.writeMem a s.regs.a).setWz (s.regs.wzWithA a)).done

/-- LD (nn),HL (R208). -/
def execLdMemHl (nn : Word) (s : State) : Out := ((s.write16 nn s.regs.hl).setWz (nn + 1)).done

/-- LD (nn),XY (R208). -/
def execLdMemXy (x : XY) (nn : Word) (s : State) : Out := ((s.write16 nn (s.regs.getXy x)).setWz (nn + 1)).done

/-- LD (nn),A (R209). -/
def execLdMemA (nn : Word) (s : State) : Out := ((s.writeMem nn s.regs.a).setWz (s.regs.wzWithA nn)).done

/-- LD A,(BC) and LD A,(DE) (R210). -/
def execLdAPair (p : BcDe) (s : State) : Out :=
  let a := s.regs.getBcDe p
  s.readMem a fun v s => (s.setRegs { s.regs with a := v, wz := a + 1 }).done

/-- LD HL,(nn) (R211). -/
def execLdHlMem (nn : Word) (s : State) : Out :=
  s.read16 nn fun v s => (s.setRegs { s.regs.setHl v with wz := nn + 1 }).done

/-- LD XY,(nn) (R211). -/
def execLdXyMem (x : XY) (nn : Word) (s : State) : Out :=
  s.read16 nn fun v s => (s.setRegs { s.regs.setXy x v with wz := nn + 1 }).done

/-- LD A,(nn) (R212). -/
def execLdAMem (nn : Word) (s : State) : Out :=
  s.readMem nn fun v s => (s.setRegs { s.regs with a := v, wz := nn + 1 }).done

/-- INC rp, modulo 2^16 and without flags (R213). -/
def execIncRp (p : RP) (s : State) : Out := ((s.fill 2).setRegs (s.regs.setRp p (s.regs.getRp p + 1))).done

/-- INC XY (R213). -/
def execIncXy (x : XY) (s : State) : Out := ((s.fill 2).setRegs (s.regs.setXy x (s.regs.getXy x + 1))).done

/-- DEC rp, modulo 2^16 and without flags (R220). -/
def execDecRp (p : RP) (s : State) : Out := ((s.fill 2).setRegs (s.regs.setRp p (s.regs.getRp p - 1))).done

/-- DEC XY (R220). -/
def execDecXy (x : XY) (s : State) : Out := ((s.fill 2).setRegs (s.regs.setXy x (s.regs.getXy x - 1))).done

/-- INC r (R214). -/
def execIncR (r : R8) (s : State) : Out :=
  let (res, fl) := inc8 (s.regs.getR8 r) s.flags
  (s.setRegs (s.regs.setR8 r res)).doneFlags fl

/-- INC XYH and INC XYL (R214). -/
def execIncHalf (x : XY) (k : Half) (s : State) : Out :=
  let (res, fl) := inc8 (s.regs.getHalf x k) s.flags
  (s.setRegs (s.regs.setHalf x k res)).doneFlags fl

/-- Read, modify and write back the byte at `a` with F(1) between, and write the flags (R192). -/
def State.modifyMem (s : State) (a : Word) (g : Byte → Flags → Byte × Flags) : Out :=
  s.readMem a fun v s =>
    let (res, fl) := g v s.flags
    ((s.fill 1).writeMem a res).doneFlags fl

/-- INC (HL) (R215). -/
def execIncMem (s : State) : Out := s.modifyMem s.regs.hl inc8

/-- INC (XY+d) (R215). -/
def execIncIdx (x : XY) (d : Byte) (s : State) : Out := s.indexed x d 5 fun ea s => s.modifyMem ea inc8

/-- DEC r (R216). -/
def execDecR (r : R8) (s : State) : Out :=
  let (res, fl) := dec8 (s.regs.getR8 r) s.flags
  (s.setRegs (s.regs.setR8 r res)).doneFlags fl

/-- DEC XYH and DEC XYL (R216). -/
def execDecHalf (x : XY) (k : Half) (s : State) : Out :=
  let (res, fl) := dec8 (s.regs.getHalf x k) s.flags
  (s.setRegs (s.regs.setHalf x k res)).doneFlags fl

/-- DEC (HL) (R217). -/
def execDecMem (s : State) : Out := s.modifyMem s.regs.hl dec8

/-- DEC (XY+d) (R217). -/
def execDecIdx (x : XY) (d : Byte) (s : State) : Out := s.indexed x d 5 fun ea s => s.modifyMem ea dec8

/-- LD r,n (R218). -/
def execLdRN (r : R8) (n : Byte) (s : State) : Out := (s.setRegs (s.regs.setR8 r n)).done

/-- LD XYH,n and LD XYL,n (R218). -/
def execLdHalfN (x : XY) (k : Half) (n : Byte) (s : State) : Out := (s.setRegs (s.regs.setHalf x k n)).done

/-- LD (HL),n (R219). -/
def execLdHlN (n : Byte) (s : State) : Out := (s.writeMem s.regs.hl n).done

/-- LD (XY+d),n: the address filler is 2 (R219). -/
def execLdIdxN (x : XY) (d n : Byte) (s : State) : Out := s.indexed x d 2 fun ea s => (s.writeMem ea n).done

/-- A rotate of A (R183). -/
def State.rotateA (s : State) (op : RotOp) : Out :=
  let (res, fl) := rotA op s.regs.a s.flags
  (s.setRegs { s.regs with a := res }).doneFlags fl

/-- RLCA (R229). -/
def execRlca (s : State) : Out := s.rotateA .rlc
/-- RRCA (R230). -/
def execRrca (s : State) : Out := s.rotateA .rrc
/-- RLA (R231). -/
def execRla (s : State) : Out := s.rotateA .rl
/-- RRA (R232). -/
def execRra (s : State) : Out := s.rotateA .rr

/-- DAA (R233). -/
def execDaa (s : State) : Out :=
  let (res, fl) := daa8 s.regs.a s.flags
  (s.setRegs { s.regs with a := res }).doneFlags fl

/-- CPL (R234). -/
def execCpl (s : State) : Out :=
  let (res, fl) := cpl8 s.regs.a s.flags
  (s.setRegs { s.regs with a := res }).doneFlags fl

/-- SCF (R235). -/
def execScf (s : State) : Out := s.doneFlags (scfFlags s.regs.q s.regs.f s.regs.a)

/-- CCF (R236). -/
def execCcf (s : State) : Out := s.doneFlags (ccfFlags s.regs.q s.regs.f s.regs.a)

end Sys2Proof.Machine
end

