-- ==== Sys2Proof/Machine/BitOps.lean ====
section
/-! DEFINITION. The meanings of the CB subset and of DDCB/FDCB (spec/44_cb.md): each rotate, shift and bit operation on a register, on (HL), on
(XY+d), and on (XY+d) with the result copied to a plain register. -/

namespace Sys2Proof.Machine

/-- A rotate or shift of a register (R182, R300 to R307). -/
def State.rotReg (s : State) (op : RotOp) (r : R8) : Out :=
  let (res, fl) := rot8 op (s.regs.getR8 r) s.flags
  (s.setRegs (s.regs.setR8 r res)).doneFlags fl

/-- A rotate or shift of the byte at HL (R192). -/
def State.rotMem (s : State) (op : RotOp) : Out := s.modifyMem s.regs.hl (rot8 op)

/-- A rotate or shift of the byte at XY+d; the address filler of the XCB form is 2 (R144, R311). -/
def State.rotIdx (s : State) (op : RotOp) (x : XY) (d : Byte) : Out :=
  s.indexed x d 2 fun ea s => s.modifyMem ea (rot8 op)

/-- The same, with the result copied to the plain register `r` (R311). -/
def State.rotIdxReg (s : State) (op : RotOp) (x : XY) (d : Byte) (r : R8) : Out :=
  s.indexed x d 2 fun ea s => s.readMem ea fun v s =>
    let (res, fl) := rot8 op v s.flags
    (((s.fill 1).writeMem ea res).setRegs (s.regs.setR8 r res)).doneFlags fl

/-- Read the byte at `a`, F(1), write `g` of it back; no flag (RES and SET, R192, R309, R310). -/
def State.rewriteMem (s : State) (a : Word) (g : Byte → Byte) : Out :=
  s.readMem a fun v s => ((s.fill 1).writeMem a (g v)).done

/-- The same at XY+d, with the result copied to the plain register `r` (R311). -/
def State.rewriteIdxReg (s : State) (x : XY) (d : Byte) (r : R8) (g : Byte → Byte) : Out :=
  s.indexed x d 2 fun ea s => s.readMem ea fun v s =>
    (((s.fill 1).writeMem ea (g v)).setRegs (s.regs.setR8 r (g v))).done

/-- `v & ~(1 << b)` (R309). -/
def clearBit (b : BitVec 3) (v : Byte) : Byte := v &&& ~~~(bitMask b)

/-- `v | (1 << b)` (R310). -/
def assertBit (b : BitVec 3) (v : Byte) : Byte := v ||| bitMask b

/-- RLC r (R300). -/
def execRlcR (r : R8) (s : State) : Out := s.rotReg .rlc r
/-- RLC (HL) (R300). -/
def execRlcMem (s : State) : Out := s.rotMem .rlc
/-- RLC (XY+d) (R300, R311). -/
def execRlcIdx (x : XY) (d : Byte) (s : State) : Out := s.rotIdx .rlc x d
/-- RLC (XY+d),r (R300, R311). -/
def execRlcIdxR (x : XY) (d : Byte) (r : R8) (s : State) : Out := s.rotIdxReg .rlc x d r

/-- RRC r (R301). -/
def execRrcR (r : R8) (s : State) : Out := s.rotReg .rrc r
/-- RRC (HL) (R301). -/
def execRrcMem (s : State) : Out := s.rotMem .rrc
/-- RRC (XY+d) (R301, R311). -/
def execRrcIdx (x : XY) (d : Byte) (s : State) : Out := s.rotIdx .rrc x d
/-- RRC (XY+d),r (R301, R311). -/
def execRrcIdxR (x : XY) (d : Byte) (r : R8) (s : State) : Out := s.rotIdxReg .rrc x d r

/-- RL r (R302). -/
def execRlR (r : R8) (s : State) : Out := s.rotReg .rl r
/-- RL (HL) (R302). -/
def execRlMem (s : State) : Out := s.rotMem .rl
/-- RL (XY+d) (R302, R311). -/
def execRlIdx (x : XY) (d : Byte) (s : State) : Out := s.rotIdx .rl x d
/-- RL (XY+d),r (R302, R311). -/
def execRlIdxR (x : XY) (d : Byte) (r : R8) (s : State) : Out := s.rotIdxReg .rl x d r

/-- RR r (R303). -/
def execRrR (r : R8) (s : State) : Out := s.rotReg .rr r
/-- RR (HL) (R303). -/
def execRrMem (s : State) : Out := s.rotMem .rr
/-- RR (XY+d) (R303, R311). -/
def execRrIdx (x : XY) (d : Byte) (s : State) : Out := s.rotIdx .rr x d
/-- RR (XY+d),r (R303, R311). -/
def execRrIdxR (x : XY) (d : Byte) (r : R8) (s : State) : Out := s.rotIdxReg .rr x d r

/-- SLA r (R304). -/
def execSlaR (r : R8) (s : State) : Out := s.rotReg .sla r
/-- SLA (HL) (R304). -/
def execSlaMem (s : State) : Out := s.rotMem .sla
/-- SLA (XY+d) (R304, R311). -/
def execSlaIdx (x : XY) (d : Byte) (s : State) : Out := s.rotIdx .sla x d
/-- SLA (XY+d),r (R304, R311). -/
def execSlaIdxR (x : XY) (d : Byte) (r : R8) (s : State) : Out := s.rotIdxReg .sla x d r

/-- SRA r (R305). -/
def execSraR (r : R8) (s : State) : Out := s.rotReg .sra r
/-- SRA (HL) (R305). -/
def execSraMem (s : State) : Out := s.rotMem .sra
/-- SRA (XY+d) (R305, R311). -/
def execSraIdx (x : XY) (d : Byte) (s : State) : Out := s.rotIdx .sra x d
/-- SRA (XY+d),r (R305, R311). -/
def execSraIdxR (x : XY) (d : Byte) (r : R8) (s : State) : Out := s.rotIdxReg .sra x d r

/-- SLL r (R306). -/
def execSllR (r : R8) (s : State) : Out := s.rotReg .sll r
/-- SLL (HL) (R306). -/
def execSllMem (s : State) : Out := s.rotMem .sll
/-- SLL (XY+d) (R306, R311). -/
def execSllIdx (x : XY) (d : Byte) (s : State) : Out := s.rotIdx .sll x d
/-- SLL (XY+d),r (R306, R311). -/
def execSllIdxR (x : XY) (d : Byte) (r : R8) (s : State) : Out := s.rotIdxReg .sll x d r

/-- SRL r (R307). -/
def execSrlR (r : R8) (s : State) : Out := s.rotReg .srl r
/-- SRL (HL) (R307). -/
def execSrlMem (s : State) : Out := s.rotMem .srl
/-- SRL (XY+d) (R307, R311). -/
def execSrlIdx (x : XY) (d : Byte) (s : State) : Out := s.rotIdx .srl x d
/-- SRL (XY+d),r (R307, R311). -/
def execSrlIdxR (x : XY) (d : Byte) (r : R8) (s : State) : Out := s.rotIdxReg .srl x d r

/-- BIT b,r: F5 and F3 from the register (R308). -/
def execBitR (b : BitVec 3) (r : R8) (s : State) : Out :=
  s.doneFlags (bitFlags b (s.regs.getR8 r) (s.regs.getR8 r) s.flags)

/-- BIT b,(HL): F5 and F3 from W, the high byte of WZ; nothing is written back (R308). -/
def execBitMem (b : BitVec 3) (s : State) : Out :=
  s.readMem s.regs.hl fun v s => (s.fill 1).doneFlags (bitFlags b v (hi8 s.regs.wz) s.flags)

/-- BIT b,(XY+d), for every z: F5 and F3 from high(ea), which is W (R308, R312). -/
def execBitIdx (x : XY) (d : Byte) (b _z : BitVec 3) (s : State) : Out :=
  s.indexed x d 2 fun ea s => s.readMem ea fun v s => (s.fill 1).doneFlags (bitFlags b v (hi8 ea) s.flags)

/-- RES b,r (R309). -/
def execResR (b : BitVec 3) (r : R8) (s : State) : Out := (s.setRegs (s.regs.setR8 r (clearBit b (s.regs.getR8 r)))).done
/-- RES b,(HL) (R309). -/
def execResMem (b : BitVec 3) (s : State) : Out := s.rewriteMem s.regs.hl (clearBit b)
/-- RES b,(XY+d) (R309, R311). -/
def execResIdx (x : XY) (d : Byte) (b : BitVec 3) (s : State) : Out :=
  s.indexed x d 2 fun ea s => s.rewriteMem ea (clearBit b)
/-- RES b,(XY+d),r (R309, R311). -/
def execResIdxR (x : XY) (d : Byte) (b : BitVec 3) (r : R8) (s : State) : Out := s.rewriteIdxReg x d r (clearBit b)

/-- SET b,r (R310). -/
def execSetR (b : BitVec 3) (r : R8) (s : State) : Out := (s.setRegs (s.regs.setR8 r (assertBit b (s.regs.getR8 r)))).done
/-- SET b,(HL) (R310). -/
def execSetMem (b : BitVec 3) (s : State) : Out := s.rewriteMem s.regs.hl (assertBit b)
/-- SET b,(XY+d) (R310, R311). -/
def execSetIdx (x : XY) (d : Byte) (b : BitVec 3) (s : State) : Out :=
  s.indexed x d 2 fun ea s => s.rewriteMem ea (assertBit b)
/-- SET b,(XY+d),r (R310, R311). -/
def execSetIdxR (x : XY) (d : Byte) (b : BitVec 3) (r : R8) (s : State) : Out := s.rewriteIdxReg x d r (assertBit b)

end Sys2Proof.Machine
end

