-- ==== Sys2Proof/Machine/EdBlock.lean ====
section
/-! DEFINITION. The meanings of the ED subset's block instructions (spec/46_ed_block.md). One execution is one iteration: a repeating one ends
with PC back at the ED byte (R350). -/

namespace Sys2Proof.Machine

/-- The direction of a block instruction: I forms go up, D forms down (R350). -/
inductive Dir where
  | up | down
deriving DecidableEq, Repr

/-- `step`: +1 or -1 on a 16-bit register (R350). -/
def Dir.step16 : Dir → Word → Word
  | .up, w => w + 1
  | .down, w => w - 1

/-- `step`: +1 or -1 on a byte (R350). -/
def Dir.step8 : Dir → Byte → Byte
  | .up, v => v + 1
  | .down, v => v - 1

/-- A repeating iteration: F(5), PC goes back by two, and WZ = PC + 1 for the load and compare groups (R350, R353, R357). -/
def State.repeatBlock (s : State) (writesWz : Bool) : State :=
  let pc := s.regs.pc - 2
  (s.fill 5).setRegs { s.regs with pc := pc, wz := if writesWz then pc + 1 else s.regs.wz }

/-- LDI, LDD, LDIR, LDDR (R351 to R354). -/
def State.blockLoad (s : State) (dir : Dir) (again : Bool) : Out :=
  s.readMem s.regs.hl fun v s =>
    let bc := s.regs.bc - 1
    let fl := ldBlockFlags v s.regs.a bc s.flags
    let s := ((s.writeMem s.regs.de v).fill 2).setRegs
      (((s.regs.setHl (dir.step16 s.regs.hl)).setDe (dir.step16 s.regs.de)).setBc bc)
    (if again && bc != 0 then s.repeatBlock true else s).doneFlags fl

/-- CPI, CPD, CPIR, CPDR (R355 to R358). -/
def State.blockCompare (s : State) (dir : Dir) (again : Bool) : Out :=
  s.readMem s.regs.hl fun v s =>
    let bc := s.regs.bc - 1
    let fl := cpBlockFlags s.regs.a v bc s.flags
    let s := (s.fill 5).setRegs
      { (s.regs.setHl (dir.step16 s.regs.hl)).setBc bc with wz := dir.step16 s.regs.wz }
    (if again && bc != 0 && s.regs.a != v then s.repeatBlock true else s).doneFlags fl

/-- The sum `k` of the input group: `v + ((C + step) mod 256)` (R359, R360). -/
def inputSum (dir : Dir) (v c : Byte) : Nat := v.toNat + (dir.step8 c).toNat

/-- INI, IND, INIR, INDR: the port and WZ use B before its decrement (R359 to R362). -/
def State.blockIn (s : State) (dir : Dir) (again : Bool) : Out :=
  let bc := s.regs.bc
  (s.fill 1).readPort bc fun v s =>
    let b := s.regs.b - 1
    let fl := ioBlockFlags b v (inputSum dir v s.regs.c)
    let s := (s.writeMem s.regs.hl v).setRegs
      { s.regs.setHl (dir.step16 s.regs.hl) with b := b, wz := dir.step16 bc }
    (if again && b != 0 then s.repeatBlock false else s).doneFlags fl

/-- OUTI, OUTD, OTIR, OTDR: the port and WZ use B after its decrement, and `k = v + L` uses the new L (R363 to R366). -/
def State.blockOut (s : State) (dir : Dir) (again : Bool) : Out :=
  (s.fill 1).readMem s.regs.hl fun v s =>
    let b := s.regs.b - 1
    let hl := dir.step16 s.regs.hl
    let port := mk16 b s.regs.c
    let fl := ioBlockFlags b v (v.toNat + (lo8 hl).toNat)
    let s := (s.writePort port v).setRegs { s.regs.setHl hl with b := b, wz := dir.step16 port }
    (if again && b != 0 then s.repeatBlock false else s).doneFlags fl

/-- LDI (R351). -/
def execLdi (s : State) : Out := s.blockLoad .up false
/-- LDD (R352). -/
def execLdd (s : State) : Out := s.blockLoad .down false
/-- LDIR (R353). -/
def execLdir (s : State) : Out := s.blockLoad .up true
/-- LDDR (R354). -/
def execLddr (s : State) : Out := s.blockLoad .down true
/-- CPI (R355). -/
def execCpi (s : State) : Out := s.blockCompare .up false
/-- CPD (R356). -/
def execCpd (s : State) : Out := s.blockCompare .down false
/-- CPIR (R357). -/
def execCpir (s : State) : Out := s.blockCompare .up true
/-- CPDR (R358). -/
def execCpdr (s : State) : Out := s.blockCompare .down true
/-- INI (R359). -/
def execIni (s : State) : Out := s.blockIn .up false
/-- IND (R360). -/
def execInd (s : State) : Out := s.blockIn .down false
/-- INIR (R361). -/
def execInir (s : State) : Out := s.blockIn .up true
/-- INDR (R362). -/
def execIndr (s : State) : Out := s.blockIn .down true
/-- OUTI (R363). -/
def execOuti (s : State) : Out := s.blockOut .up false
/-- OUTD (R364). -/
def execOutd (s : State) : Out := s.blockOut .down false
/-- OTIR (R365). -/
def execOtir (s : State) : Out := s.blockOut .up true
/-- OTDR (R366). -/
def execOtdr (s : State) : Out := s.blockOut .down true

end Sys2Proof.Machine
end

