-- ==== Sys2Proof/Machine/EdMisc.lean ====
section
/-! DEFINITION. The meanings of the ED subset's quadrant 1 and of the holes (spec/45_ed.md). -/

namespace Sys2Proof.Machine

/-- IN r,(C): the port is all of BC (R320). -/
def execInRC (r : R8) (s : State) : Out :=
  let bc := s.regs.bc
  s.readPort bc fun v s =>
    (s.setRegs { s.regs.setR8 r v with wz := bc + 1 }).doneFlags (inFlags v s.flags)

/-- IN (C): flags only (R321). -/
def execInC (s : State) : Out :=
  let bc := s.regs.bc
  s.readPort bc fun v s => (s.setWz (bc + 1)).doneFlags (inFlags v s.flags)

/-- OUT (C),r (R322). -/
def execOutCR (r : R8) (s : State) : Out :=
  ((s.writePort s.regs.bc (s.regs.getR8 r)).setWz (s.regs.bc + 1)).done

/-- OUT (C),0: the NMOS part's zero (R323, D1). -/
def execOutC0 (s : State) : Out := ((s.writePort s.regs.bc 0).setWz (s.regs.bc + 1)).done

/-- SBC HL,rp (R324). -/
def execSbcHlRp (p : RP) (s : State) : Out :=
  let hl := s.regs.hl
  let (res, fl) := sbc16 hl (s.regs.getRp p) (flagC s.regs.f)
  ((s.fill 7).setRegs { s.regs.setHl res with wz := hl + 1 }).doneFlags fl

/-- ADC HL,rp (R325). -/
def execAdcHlRp (p : RP) (s : State) : Out :=
  let hl := s.regs.hl
  let (res, fl) := adc16 hl (s.regs.getRp p) (flagC s.regs.f)
  ((s.fill 7).setRegs { s.regs.setHl res with wz := hl + 1 }).doneFlags fl

/-- LD (nn),rp (R326). -/
def execLdMemRp (p : RP) (nn : Word) (s : State) : Out := ((s.write16 nn (s.regs.getRp p)).setWz (nn + 1)).done

/-- LD rp,(nn) (R327). -/
def execLdRpMem (p : RP) (nn : Word) (s : State) : Out :=
  s.read16 nn fun v s => (s.setRegs { s.regs.setRp p v with wz := nn + 1 }).done

/-- NEG, at each of its eight codes (R330). -/
def execNeg (_y : BitVec 3) (s : State) : Out :=
  let (res, fl) := neg8 s.regs.a
  (s.setRegs { s.regs with a := res }).doneFlags fl

/-- RETN, at each of its seven codes (R328). -/
def execRetn (_y : BitVec 3) (s : State) : Out := s.returnFromInterrupt.done

/-- RETI; IFF1 takes IFF2 here too (R336, D20). -/
def execReti (s : State) : Out := s.returnFromInterrupt.done

/-- The mode that `IM` with field `y` selects: 0, 0, 1, 2, 0, 0, 1, 2 (R329, D19). -/
def imOf (y : BitVec 3) : IntMode :=
  match y.toNat with
  | 2 => .im1 | 3 => .im2 | 6 => .im1 | 7 => .im2 | _ => .im0

/-- IM m (R329). -/
def execIm (y : BitVec 3) (s : State) : Out := (s.setRegs { s.regs with im := imOf y }).done

/-- LD I,A (R331). -/
def execLdIA (s : State) : Out := ((s.fill 1).setRegs { s.regs with i := s.regs.a }).done

/-- LD R,A: all eight bits, after this instruction's own two fetches (R332). -/
def execLdRA (s : State) : Out := ((s.fill 1).setRegs { s.regs with r := s.regs.a }).done

/-- LD A,I (R333). -/
def execLdAI (s : State) : Out :=
  ((s.fill 1).setRegs { s.regs with a := s.regs.i }).doneFlags (ldAirFlags s.regs.i s.regs.iff2 s.flags)

/-- LD A,R: R is read after this instruction's own two fetches (R337). -/
def execLdAR (s : State) : Out :=
  ((s.fill 1).setRegs { s.regs with a := s.regs.r }).doneFlags (ldAirFlags s.regs.r s.regs.iff2 s.flags)

/-- A digit rotation between A and (HL): `g` gives the new A and the byte written back (R334, R335). -/
def State.rotateDigit (s : State) (g : Byte → Byte → Byte × Byte) : Out :=
  let hl := s.regs.hl
  s.readMem hl fun m s =>
    let (a, m2) := g s.regs.a m
    (((s.fill 4).writeMem hl m2).setRegs { s.regs with a := a, wz := hl + 1 }).doneFlags (inFlags a s.flags)

/-- `m' = A[3:0] : m[7:4]` and `A = A[7:4] : m[3:0]` (R334). -/
def rrdDigits (a m : Byte) : Byte × Byte :=
  (a.extractLsb' 4 4 ++ m.extractLsb' 0 4, a.extractLsb' 0 4 ++ m.extractLsb' 4 4)

/-- `m' = m[3:0] : A[3:0]` and `A = A[7:4] : m[7:4]` (R335). -/
def rldDigits (a m : Byte) : Byte × Byte :=
  (a.extractLsb' 4 4 ++ m.extractLsb' 4 4, m.extractLsb' 0 4 ++ a.extractLsb' 0 4)

/-- RRD (R334). -/
def execRrd (s : State) : Out := s.rotateDigit rrdDigits

/-- RLD (R335). -/
def execRld (s : State) : Out := s.rotateDigit rldDigits

/-- The no-ops ED 77 and ED 7F (R340). -/
def execNopEd7 (_y0 : BitVec 1) (s : State) : Out := s.done
/-- The ED hole x = 0 (R160, R340). -/
def execHoleX0 (_y _z : BitVec 3) (s : State) : Out := s.done
/-- The ED hole x = 3 (R160, R340). -/
def execHoleX3 (_y _z : BitVec 3) (s : State) : Out := s.done
/-- The ED hole x = 2, y <= 3 (R160, R340). -/
def execHoleX2LowY (_y2 _z2 : BitVec 2) (s : State) : Out := s.done
/-- The ED hole x = 2, z >= 4 (R160, R340). -/
def execHoleX2HighZ (_y : BitVec 3) (_z2 : BitVec 2) (s : State) : Out := s.done

end Sys2Proof.Machine
end

