-- ==== Sys2Proof/Machine/MainX1X2.lean ====
section
/-! DEFINITION. The meanings of the main table's quadrants x = 1 and x = 2, of the ALU immediate forms of x = 3, and of their DD/FD
forms (spec/42_main_x1_x2.md). -/

namespace Sys2Proof.Machine

/-- LD r,r' (R240). -/
def execLdRR (r r2 : R8) (s : State) : Out := (s.setRegs (s.regs.setR8 r (s.regs.getR8 r2))).done

/-- LD r,r' under DD or FD, where H and L are XYH and XYL (R240, R146). -/
def execLdRRXy (x : XY) (r r2 : R8X) (s : State) : Out := (s.setRegs (s.regs.setR8X x r (s.regs.getR8X x r2))).done

/-- The halted bit is set when HALT's fetch completes; PC is already past HALT (R37, R241). -/
def State.setHalted (s : State) : Out := (s.setRegs { s.regs with halted := true }).done

/-- HALT (R241). -/
def execHalt (s : State) : Out := s.setHalted

/-- HALT behind an ignored DD or FD (R241). -/
def execHaltXy (_x : XY) (s : State) : Out := s.setHalted

/-- LD r,(HL) (R242). -/
def execLdRMem (r : R8) (s : State) : Out :=
  s.readMem s.regs.hl fun v s => (s.setRegs (s.regs.setR8 r v)).done

/-- LD r,(XY+d), with r the plain register (R242, R146). -/
def execLdRIdx (r : R8) (x : XY) (d : Byte) (s : State) : Out :=
  s.indexed x d 5 fun ea s => s.readMem ea fun v s => (s.setRegs (s.regs.setR8 r v)).done

/-- LD (HL),r (R243). -/
def execLdMemR (r : R8) (s : State) : Out := (s.writeMem s.regs.hl (s.regs.getR8 r)).done

/-- LD (XY+d),r, with r the plain register (R243, R146). -/
def execLdIdxR (x : XY) (d : Byte) (r : R8) (s : State) : Out :=
  s.indexed x d 5 fun ea s => (s.writeMem ea (s.regs.getR8 r)).done

/-! ### The 8-bit ALU in its four operand forms -/

/-- `alu8(op, b)` on the accumulator: A and the flags (R171). CP leaves A (R179). -/
def State.alu (s : State) (op : AluOp) (b : Byte) : Out :=
  let (res, fl) := alu8 op s.regs.a b (flagC s.regs.f)
  (s.setRegs { s.regs with a := res }).doneFlags fl

/-- The memory form: the operand is at HL. -/
def State.aluMem (s : State) (op : AluOp) : Out := s.readMem s.regs.hl fun v s => s.alu op v

/-- The indexed form: the operand is at XY+d, and WZ = ea. -/
def State.aluIdx (s : State) (op : AluOp) (x : XY) (d : Byte) : Out :=
  s.indexed x d 5 fun ea s => s.readMem ea fun v s => s.alu op v

/-- ADD A,r (R245). -/
def execAddR (r : R8) (s : State) : Out := s.alu .add (s.regs.getR8 r)
/-- ADD A,(HL) (R245). -/
def execAddMem (s : State) : Out := s.aluMem .add
/-- ADD A,XYH and ADD A,XYL (R245). -/
def execAddHalf (x : XY) (k : Half) (s : State) : Out := s.alu .add (s.regs.getHalf x k)
/-- ADD A,(XY+d) (R245). -/
def execAddIdx (x : XY) (d : Byte) (s : State) : Out := s.aluIdx .add x d
/-- ADD A,n (R245). -/
def execAddN (n : Byte) (s : State) : Out := s.alu .add n

/-- ADC A,r (R246). -/
def execAdcR (r : R8) (s : State) : Out := s.alu .adc (s.regs.getR8 r)
/-- ADC A,(HL) (R246). -/
def execAdcMem (s : State) : Out := s.aluMem .adc
/-- ADC A,XYH and ADC A,XYL (R246). -/
def execAdcHalf (x : XY) (k : Half) (s : State) : Out := s.alu .adc (s.regs.getHalf x k)
/-- ADC A,(XY+d) (R246). -/
def execAdcIdx (x : XY) (d : Byte) (s : State) : Out := s.aluIdx .adc x d
/-- ADC A,n (R246). -/
def execAdcN (n : Byte) (s : State) : Out := s.alu .adc n

/-- SUB r (R247). -/
def execSubR (r : R8) (s : State) : Out := s.alu .sub (s.regs.getR8 r)
/-- SUB (HL) (R247). -/
def execSubMem (s : State) : Out := s.aluMem .sub
/-- SUB XYH and SUB XYL (R247). -/
def execSubHalf (x : XY) (k : Half) (s : State) : Out := s.alu .sub (s.regs.getHalf x k)
/-- SUB (XY+d) (R247). -/
def execSubIdx (x : XY) (d : Byte) (s : State) : Out := s.aluIdx .sub x d
/-- SUB n (R247). -/
def execSubN (n : Byte) (s : State) : Out := s.alu .sub n

/-- SBC A,r (R248). -/
def execSbcR (r : R8) (s : State) : Out := s.alu .sbc (s.regs.getR8 r)
/-- SBC A,(HL) (R248). -/
def execSbcMem (s : State) : Out := s.aluMem .sbc
/-- SBC A,XYH and SBC A,XYL (R248). -/
def execSbcHalf (x : XY) (k : Half) (s : State) : Out := s.alu .sbc (s.regs.getHalf x k)
/-- SBC A,(XY+d) (R248). -/
def execSbcIdx (x : XY) (d : Byte) (s : State) : Out := s.aluIdx .sbc x d
/-- SBC A,n (R248). -/
def execSbcN (n : Byte) (s : State) : Out := s.alu .sbc n

/-- AND r (R249). -/
def execAndR (r : R8) (s : State) : Out := s.alu .and (s.regs.getR8 r)
/-- AND (HL) (R249). -/
def execAndMem (s : State) : Out := s.aluMem .and
/-- AND XYH and AND XYL (R249). -/
def execAndHalf (x : XY) (k : Half) (s : State) : Out := s.alu .and (s.regs.getHalf x k)
/-- AND (XY+d) (R249). -/
def execAndIdx (x : XY) (d : Byte) (s : State) : Out := s.aluIdx .and x d
/-- AND n (R249). -/
def execAndN (n : Byte) (s : State) : Out := s.alu .and n

/-- XOR r (R250). -/
def execXorR (r : R8) (s : State) : Out := s.alu .xor (s.regs.getR8 r)
/-- XOR (HL) (R250). -/
def execXorMem (s : State) : Out := s.aluMem .xor
/-- XOR XYH and XOR XYL (R250). -/
def execXorHalf (x : XY) (k : Half) (s : State) : Out := s.alu .xor (s.regs.getHalf x k)
/-- XOR (XY+d) (R250). -/
def execXorIdx (x : XY) (d : Byte) (s : State) : Out := s.aluIdx .xor x d
/-- XOR n (R250). -/
def execXorN (n : Byte) (s : State) : Out := s.alu .xor n

/-- OR r (R251). -/
def execOrR (r : R8) (s : State) : Out := s.alu .or (s.regs.getR8 r)
/-- OR (HL) (R251). -/
def execOrMem (s : State) : Out := s.aluMem .or
/-- OR XYH and OR XYL (R251). -/
def execOrHalf (x : XY) (k : Half) (s : State) : Out := s.alu .or (s.regs.getHalf x k)
/-- OR (XY+d) (R251). -/
def execOrIdx (x : XY) (d : Byte) (s : State) : Out := s.aluIdx .or x d
/-- OR n (R251). -/
def execOrN (n : Byte) (s : State) : Out := s.alu .or n

/-- CP r (R252). -/
def execCpR (r : R8) (s : State) : Out := s.alu .cp (s.regs.getR8 r)
/-- CP (HL) (R252). -/
def execCpMem (s : State) : Out := s.aluMem .cp
/-- CP XYH and CP XYL (R252). -/
def execCpHalf (x : XY) (k : Half) (s : State) : Out := s.alu .cp (s.regs.getHalf x k)
/-- CP (XY+d) (R252). -/
def execCpIdx (x : XY) (d : Byte) (s : State) : Out := s.aluIdx .cp x d
/-- CP n (R252). -/
def execCpN (n : Byte) (s : State) : Out := s.alu .cp n

end Sys2Proof.Machine
end

