-- ==== Sys2Proof/Machine/MainX3.lean ====
section
/-! DEFINITION. The meanings of the main table's quadrant x = 3 with their DD/FD forms (spec/43_main_x3.md). The ALU immediate forms are in
Machine/MainX1X2.lean. -/

namespace Sys2Proof.Machine

/-- A return: PC is popped and WZ takes it (R260, R262). -/
def State.popPc (s : State) : Out := s.pop fun v s => (s.jump v).done

/-- RET cc; the filler stands on both paths (R260). -/
def execRetCc (cc : Cond) (s : State) : Out :=
  if condHolds cc s.regs.f then (s.fill 1).popPc else (s.fill 1).done

/-- POP rr; POP AF loads F as data, and Q is 0 (R261, R35). -/
def execPopRr (p : RP2) (s : State) : Out := s.pop fun v s => (s.setRegs (s.regs.setRp2 p v)).done

/-- POP XY (R261). -/
def execPopXy (x : XY) (s : State) : Out := s.pop fun v s => (s.setRegs (s.regs.setXy x v)).done

/-- RET (R262). -/
def execRet (s : State) : Out := s.popPc

/-- EXX (R266). -/
def execExx (s : State) : Out :=
  (s.setRegs { s.regs with
    b := s.regs.bAlt, c := s.regs.cAlt, d := s.regs.dAlt, e := s.regs.eAlt, h := s.regs.hAlt, l := s.regs.lAlt,
    bAlt := s.regs.b, cAlt := s.regs.c, dAlt := s.regs.d, eAlt := s.regs.e, hAlt := s.regs.h, lAlt := s.regs.l }).done

/-- JP (HL): no memory access, and WZ is unchanged (R267). -/
def execJpHl (s : State) : Out := (s.setPc s.regs.hl).done

/-- JP (XY) (R267). -/
def execJpXy (x : XY) (s : State) : Out := (s.setPc (s.regs.getXy x)).done

/-- LD SP,HL (R268). -/
def execLdSpHl (s : State) : Out := ((s.fill 2).setRegs { s.regs with sp := s.regs.hl }).done

/-- LD SP,XY (R268). -/
def execLdSpXy (x : XY) (s : State) : Out := ((s.fill 2).setRegs { s.regs with sp := s.regs.getXy x }).done

/-- JP cc,nn; WZ = nn on both paths (R269). -/
def execJpCc (cc : Cond) (nn : Word) (s : State) : Out :=
  if condHolds cc s.regs.f then (s.jump nn).done else (s.setWz nn).done

/-- JP nn (R270). -/
def execJp (nn : Word) (s : State) : Out := (s.jump nn).done

/-- OUT (n),A: the port is `A:n` (R271). -/
def execOutNA (n : Byte) (s : State) : Out :=
  ((s.writePort (mk16 s.regs.a n) s.regs.a).setWz (mk16 s.regs.a (n + 1))).done

/-- IN A,(n): the port is `A:n`, and no flag changes (R272). -/
def execInAN (n : Byte) (s : State) : Out :=
  let port := mk16 s.regs.a n
  s.readPort port fun v s => (s.setRegs { s.regs with a := v, wz := port + 1 }).done

/-- The exchange of a word with the top of the stack: two reads, F(1), the high byte written first at SP+1, the low byte at SP, F(2)
(R273). -/
def State.exchangeTop {α : Type} (s : State) (w : Word) (k : Word → State → α) : α :=
  s.read16 s.regs.sp fun t s =>
    k t ((((s.fill 1).writeMem (s.regs.sp + 1) (hi8 w)).writeMem s.regs.sp (lo8 w)).fill 2)

/-- EX (SP),HL (R273). -/
def execExSpHl (s : State) : Out :=
  s.exchangeTop s.regs.hl fun t s => (s.setRegs { s.regs.setHl t with wz := t }).done

/-- EX (SP),XY (R273). -/
def execExSpXy (x : XY) (s : State) : Out :=
  s.exchangeTop (s.regs.getXy x) fun t s => (s.setRegs { s.regs.setXy x t with wz := t }).done

/-- EX DE,HL (R274). -/
def execExDeHl (s : State) : Out :=
  (s.setRegs { s.regs with d := s.regs.h, e := s.regs.l, h := s.regs.d, l := s.regs.e }).done

/-- DI (R275). -/
def execDi (s : State) : Out := (s.setRegs { s.regs with iff1 := false, iff2 := false }).done

/-- EI: both flip-flops are set, and `skip_int` defers INT at EI's own boundary (R276, R376). -/
def execEi (s : State) : Out :=
  { s.setRegs { s.regs with iff1 := true, iff2 := true } with skipInt := true }.done

/-- A call: F(1), PC is pushed, PC and WZ take the target (R277, R279, R280). -/
def State.callTo (s : State) (target : Word) : State := ((s.fill 1).push s.regs.pc).jump target

/-- CALL cc,nn; WZ = nn on both paths (R277). -/
def execCallCc (cc : Cond) (nn : Word) (s : State) : Out :=
  if condHolds cc s.regs.f then (s.callTo nn).done else (s.setWz nn).done

/-- PUSH rr (R278). -/
def execPushRr (p : RP2) (s : State) : Out := ((s.fill 1).push (s.regs.getRp2 p)).done

/-- PUSH XY (R278). -/
def execPushXy (x : XY) (s : State) : Out := ((s.fill 1).push (s.regs.getXy x)).done

/-- CALL nn (R279). -/
def execCall (nn : Word) (s : State) : Out := (s.callTo nn).done

/-- The target of RST: `8 * y` (R88, R280). -/
def rstTarget (y : BitVec 3) : Word := BitVec.ofNat 16 (8 * y.toNat)

/-- RST 8*y (R280). -/
def execRst (y : BitVec 3) (s : State) : Out := (s.callTo (rstTarget y)).done

end Sys2Proof.Machine
end

