-- ==== Sys2Proof/Machine/IgnoredPrefix.lean ====
section
/-! DEFINITION. The meaning of a DD or FD prefix that has no effect (spec/41_main_x0.md R238, spec/30_encoding.md R152): the instruction after it
runs as if the prefix were not there. The prefix's own bus cycle, an M1 fetch, is among the instruction's fetches (Machine/Fetch.lean). -/

namespace Sys2Proof.Machine

/-- The meaning of the instruction that stands behind an ignored prefix, which may itself begin with one. -/
def execBehindPrefix (i : Instr) (s : State) : Out :=
  match i with
  | .nop => execNop s
  | .exAfAf => execExAfAf s
  | .djnz e => execDjnz e s
  | .jr e => execJr e s
  | .jrCc cc e => execJrCc cc e s
  | .ldRpNn p nn => execLdRpNn p nn s
  | .ldXyNn x nn => execLdXyNn x nn s
  | .addHlRp p => execAddHlRp p s
  | .addXyRp x p => execAddXyRp x p s
  | .ldPairA p => execLdPairA p s
  | .ldMemHl nn => execLdMemHl nn s
  | .ldMemXy x nn => execLdMemXy x nn s
  | .ldMemA nn => execLdMemA nn s
  | .ldAPair p => execLdAPair p s
  | .ldHlMem nn => execLdHlMem nn s
  | .ldXyMem x nn => execLdXyMem x nn s
  | .ldAMem nn => execLdAMem nn s
  | .incRp p => execIncRp p s
  | .incXy x => execIncXy x s
  | .incR r => execIncR r s
  | .incHalf x k => execIncHalf x k s
  | .incMem => execIncMem s
  | .incIdx x d => execIncIdx x d s
  | .decR r => execDecR r s
  | .decHalf x k => execDecHalf x k s
  | .decMem => execDecMem s
  | .decIdx x d => execDecIdx x d s
  | .ldRN r n => execLdRN r n s
  | .ldHalfN x k n => execLdHalfN x k n s
  | .ldHlN n => execLdHlN n s
  | .ldIdxN x d n => execLdIdxN x d n s
  | .decRp p => execDecRp p s
  | .decXy x => execDecXy x s
  | .rlca => execRlca s
  | .rrca => execRrca s
  | .rla => execRla s
  | .rra => execRra s
  | .daa => execDaa s
  | .cpl => execCpl s
  | .scf => execScf s
  | .ccf => execCcf s
  | .ldRR r r2 => execLdRR r r2 s
  | .ldRRXy x r r2 => execLdRRXy x r r2 s
  | .halt => execHalt s
  | .haltXy x => execHaltXy x s
  | .ldRMem r => execLdRMem r s
  | .ldRIdx r x d => execLdRIdx r x d s
  | .ldMemR r => execLdMemR r s
  | .ldIdxR x d r => execLdIdxR x d r s
  | .addR r => execAddR r s
  | .addMem => execAddMem s
  | .addHalf x k => execAddHalf x k s
  | .addIdx x d => execAddIdx x d s
  | .addN n => execAddN n s
  | .adcR r => execAdcR r s
  | .adcMem => execAdcMem s
  | .adcHalf x k => execAdcHalf x k s
  | .adcIdx x d => execAdcIdx x d s
  | .adcN n => execAdcN n s
  | .subR r => execSubR r s
  | .subMem => execSubMem s
  | .subHalf x k => execSubHalf x k s
  | .subIdx x d => execSubIdx x d s
  | .subN n => execSubN n s
  | .sbcR r => execSbcR r s
  | .sbcMem => execSbcMem s
  | .sbcHalf x k => execSbcHalf x k s
  | .sbcIdx x d => execSbcIdx x d s
  | .sbcN n => execSbcN n s
  | .andR r => execAndR r s
  | .andMem => execAndMem s
  | .andHalf x k => execAndHalf x k s
  | .andIdx x d => execAndIdx x d s
  | .andN n => execAndN n s
  | .xorR r => execXorR r s
  | .xorMem => execXorMem s
  | .xorHalf x k => execXorHalf x k s
  | .xorIdx x d => execXorIdx x d s
  | .xorN n => execXorN n s
  | .orR r => execOrR r s
  | .orMem => execOrMem s
  | .orHalf x k => execOrHalf x k s
  | .orIdx x d => execOrIdx x d s
  | .orN n => execOrN n s
  | .cpR r => execCpR r s
  | .cpMem => execCpMem s
  | .cpHalf x k => execCpHalf x k s
  | .cpIdx x d => execCpIdx x d s
  | .cpN n => execCpN n s
  | .retCc cc => execRetCc cc s
  | .popRr p => execPopRr p s
  | .popXy x => execPopXy x s
  | .ret => execRet s
  | .exx => execExx s
  | .jpHl => execJpHl s
  | .jpXy x => execJpXy x s
  | .ldSpHl => execLdSpHl s
  | .ldSpXy x => execLdSpXy x s
  | .jpCc cc nn => execJpCc cc nn s
  | .jp nn => execJp nn s
  | .outNA n => execOutNA n s
  | .inAN n => execInAN n s
  | .exSpHl => execExSpHl s
  | .exSpXy x => execExSpXy x s
  | .exDeHl => execExDeHl s
  | .di => execDi s
  | .ei => execEi s
  | .callCc cc nn => execCallCc cc nn s
  | .pushRr p => execPushRr p s
  | .pushXy x => execPushXy x s
  | .call nn => execCall nn s
  | .rst y => execRst y s
  | .ignored _ i => execBehindPrefix i s
  | .rlcR r => execRlcR r s
  | .rlcMem => execRlcMem s
  | .rlcIdx x d => execRlcIdx x d s
  | .rlcIdxR x d r => execRlcIdxR x d r s
  | .rrcR r => execRrcR r s
  | .rrcMem => execRrcMem s
  | .rrcIdx x d => execRrcIdx x d s
  | .rrcIdxR x d r => execRrcIdxR x d r s
  | .rlR r => execRlR r s
  | .rlMem => execRlMem s
  | .rlIdx x d => execRlIdx x d s
  | .rlIdxR x d r => execRlIdxR x d r s
  | .rrR r => execRrR r s
  | .rrMem => execRrMem s
  | .rrIdx x d => execRrIdx x d s
  | .rrIdxR x d r => execRrIdxR x d r s
  | .slaR r => execSlaR r s
  | .slaMem => execSlaMem s
  | .slaIdx x d => execSlaIdx x d s
  | .slaIdxR x d r => execSlaIdxR x d r s
  | .sraR r => execSraR r s
  | .sraMem => execSraMem s
  | .sraIdx x d => execSraIdx x d s
  | .sraIdxR x d r => execSraIdxR x d r s
  | .sllR r => execSllR r s
  | .sllMem => execSllMem s
  | .sllIdx x d => execSllIdx x d s
  | .sllIdxR x d r => execSllIdxR x d r s
  | .srlR r => execSrlR r s
  | .srlMem => execSrlMem s
  | .srlIdx x d => execSrlIdx x d s
  | .srlIdxR x d r => execSrlIdxR x d r s
  | .bitR b r => execBitR b r s
  | .bitMem b => execBitMem b s
  | .bitIdx x d b z => execBitIdx x d b z s
  | .resR b r => execResR b r s
  | .resMem b => execResMem b s
  | .resIdx x d b => execResIdx x d b s
  | .resIdxR x d b r => execResIdxR x d b r s
  | .setR b r => execSetR b r s
  | .setMem b => execSetMem b s
  | .setIdx x d b => execSetIdx x d b s
  | .setIdxR x d b r => execSetIdxR x d b r s
  | .inRC r => execInRC r s
  | .inC => execInC s
  | .outCR r => execOutCR r s
  | .outC0 => execOutC0 s
  | .sbcHlRp p => execSbcHlRp p s
  | .adcHlRp p => execAdcHlRp p s
  | .ldMemRp p nn => execLdMemRp p nn s
  | .ldRpMem p nn => execLdRpMem p nn s
  | .neg y => execNeg y s
  | .retn y => execRetn y s
  | .reti => execReti s
  | .im y => execIm y s
  | .ldIA => execLdIA s
  | .ldRA => execLdRA s
  | .ldAI => execLdAI s
  | .ldAR => execLdAR s
  | .rrd => execRrd s
  | .rld => execRld s
  | .nopEd7 y0 => execNopEd7 y0 s
  | .holeX0 y z => execHoleX0 y z s
  | .holeX3 y z => execHoleX3 y z s
  | .holeX2LowY y2 z2 => execHoleX2LowY y2 z2 s
  | .holeX2HighZ y z2 => execHoleX2HighZ y z2 s
  | .ldi => execLdi s
  | .cpi => execCpi s
  | .ini => execIni s
  | .outi => execOuti s
  | .ldd => execLdd s
  | .cpd => execCpd s
  | .ind => execInd s
  | .outd => execOutd s
  | .ldir => execLdir s
  | .cpir => execCpir s
  | .inir => execInir s
  | .otir => execOtir s
  | .lddr => execLddr s
  | .cpdr => execCpdr s
  | .indr => execIndr s
  | .otdr => execOtdr s

/-- A DD or FD prefix that has no effect (R238): the modifier it sets does not matter to `i`, and the last prefix before `i` wins (R152). -/
def execIgnored (_x : XY) (i : Instr) (s : State) : Out := execBehindPrefix i s

end Sys2Proof.Machine
end

