-- ==== Sys2Proof/Machine/Dispatch.lean ====
section
/-! DEFINITION. The dispatch: one arm per constructor of Instr, in the opcode table's order. -/

namespace Sys2Proof.Machine

def exec (i : Instr) (s : State) : Host.Outcome State Fault Refusal :=
  match i with
  | .nop => Sys2Proof.Machine.execNop s
  | .exAfAf => Sys2Proof.Machine.execExAfAf s
  | .djnz e => Sys2Proof.Machine.execDjnz e s
  | .jr e => Sys2Proof.Machine.execJr e s
  | .jrCc cc e => Sys2Proof.Machine.execJrCc cc e s
  | .ldRpNn p nn => Sys2Proof.Machine.execLdRpNn p nn s
  | .ldXyNn x nn => Sys2Proof.Machine.execLdXyNn x nn s
  | .addHlRp p => Sys2Proof.Machine.execAddHlRp p s
  | .addXyRp x p => Sys2Proof.Machine.execAddXyRp x p s
  | .ldPairA p => Sys2Proof.Machine.execLdPairA p s
  | .ldMemHl nn => Sys2Proof.Machine.execLdMemHl nn s
  | .ldMemXy x nn => Sys2Proof.Machine.execLdMemXy x nn s
  | .ldMemA nn => Sys2Proof.Machine.execLdMemA nn s
  | .ldAPair p => Sys2Proof.Machine.execLdAPair p s
  | .ldHlMem nn => Sys2Proof.Machine.execLdHlMem nn s
  | .ldXyMem x nn => Sys2Proof.Machine.execLdXyMem x nn s
  | .ldAMem nn => Sys2Proof.Machine.execLdAMem nn s
  | .incRp p => Sys2Proof.Machine.execIncRp p s
  | .incXy x => Sys2Proof.Machine.execIncXy x s
  | .incR r => Sys2Proof.Machine.execIncR r s
  | .incHalf x k => Sys2Proof.Machine.execIncHalf x k s
  | .incMem => Sys2Proof.Machine.execIncMem s
  | .incIdx x d => Sys2Proof.Machine.execIncIdx x d s
  | .decR r => Sys2Proof.Machine.execDecR r s
  | .decHalf x k => Sys2Proof.Machine.execDecHalf x k s
  | .decMem => Sys2Proof.Machine.execDecMem s
  | .decIdx x d => Sys2Proof.Machine.execDecIdx x d s
  | .ldRN r n => Sys2Proof.Machine.execLdRN r n s
  | .ldHalfN x k n => Sys2Proof.Machine.execLdHalfN x k n s
  | .ldHlN n => Sys2Proof.Machine.execLdHlN n s
  | .ldIdxN x d n => Sys2Proof.Machine.execLdIdxN x d n s
  | .decRp p => Sys2Proof.Machine.execDecRp p s
  | .decXy x => Sys2Proof.Machine.execDecXy x s
  | .rlca => Sys2Proof.Machine.execRlca s
  | .rrca => Sys2Proof.Machine.execRrca s
  | .rla => Sys2Proof.Machine.execRla s
  | .rra => Sys2Proof.Machine.execRra s
  | .daa => Sys2Proof.Machine.execDaa s
  | .cpl => Sys2Proof.Machine.execCpl s
  | .scf => Sys2Proof.Machine.execScf s
  | .ccf => Sys2Proof.Machine.execCcf s
  | .ldRR r r2 => Sys2Proof.Machine.execLdRR r r2 s
  | .ldRRXy x r r2 => Sys2Proof.Machine.execLdRRXy x r r2 s
  | .halt => Sys2Proof.Machine.execHalt s
  | .haltXy x => Sys2Proof.Machine.execHaltXy x s
  | .ldRMem r => Sys2Proof.Machine.execLdRMem r s
  | .ldRIdx r x d => Sys2Proof.Machine.execLdRIdx r x d s
  | .ldMemR r => Sys2Proof.Machine.execLdMemR r s
  | .ldIdxR x d r => Sys2Proof.Machine.execLdIdxR x d r s
  | .addR r => Sys2Proof.Machine.execAddR r s
  | .addMem => Sys2Proof.Machine.execAddMem s
  | .addHalf x k => Sys2Proof.Machine.execAddHalf x k s
  | .addIdx x d => Sys2Proof.Machine.execAddIdx x d s
  | .addN n => Sys2Proof.Machine.execAddN n s
  | .adcR r => Sys2Proof.Machine.execAdcR r s
  | .adcMem => Sys2Proof.Machine.execAdcMem s
  | .adcHalf x k => Sys2Proof.Machine.execAdcHalf x k s
  | .adcIdx x d => Sys2Proof.Machine.execAdcIdx x d s
  | .adcN n => Sys2Proof.Machine.execAdcN n s
  | .subR r => Sys2Proof.Machine.execSubR r s
  | .subMem => Sys2Proof.Machine.execSubMem s
  | .subHalf x k => Sys2Proof.Machine.execSubHalf x k s
  | .subIdx x d => Sys2Proof.Machine.execSubIdx x d s
  | .subN n => Sys2Proof.Machine.execSubN n s
  | .sbcR r => Sys2Proof.Machine.execSbcR r s
  | .sbcMem => Sys2Proof.Machine.execSbcMem s
  | .sbcHalf x k => Sys2Proof.Machine.execSbcHalf x k s
  | .sbcIdx x d => Sys2Proof.Machine.execSbcIdx x d s
  | .sbcN n => Sys2Proof.Machine.execSbcN n s
  | .andR r => Sys2Proof.Machine.execAndR r s
  | .andMem => Sys2Proof.Machine.execAndMem s
  | .andHalf x k => Sys2Proof.Machine.execAndHalf x k s
  | .andIdx x d => Sys2Proof.Machine.execAndIdx x d s
  | .andN n => Sys2Proof.Machine.execAndN n s
  | .xorR r => Sys2Proof.Machine.execXorR r s
  | .xorMem => Sys2Proof.Machine.execXorMem s
  | .xorHalf x k => Sys2Proof.Machine.execXorHalf x k s
  | .xorIdx x d => Sys2Proof.Machine.execXorIdx x d s
  | .xorN n => Sys2Proof.Machine.execXorN n s
  | .orR r => Sys2Proof.Machine.execOrR r s
  | .orMem => Sys2Proof.Machine.execOrMem s
  | .orHalf x k => Sys2Proof.Machine.execOrHalf x k s
  | .orIdx x d => Sys2Proof.Machine.execOrIdx x d s
  | .orN n => Sys2Proof.Machine.execOrN n s
  | .cpR r => Sys2Proof.Machine.execCpR r s
  | .cpMem => Sys2Proof.Machine.execCpMem s
  | .cpHalf x k => Sys2Proof.Machine.execCpHalf x k s
  | .cpIdx x d => Sys2Proof.Machine.execCpIdx x d s
  | .cpN n => Sys2Proof.Machine.execCpN n s
  | .retCc cc => Sys2Proof.Machine.execRetCc cc s
  | .popRr p => Sys2Proof.Machine.execPopRr p s
  | .popXy x => Sys2Proof.Machine.execPopXy x s
  | .ret => Sys2Proof.Machine.execRet s
  | .exx => Sys2Proof.Machine.execExx s
  | .jpHl => Sys2Proof.Machine.execJpHl s
  | .jpXy x => Sys2Proof.Machine.execJpXy x s
  | .ldSpHl => Sys2Proof.Machine.execLdSpHl s
  | .ldSpXy x => Sys2Proof.Machine.execLdSpXy x s
  | .jpCc cc nn => Sys2Proof.Machine.execJpCc cc nn s
  | .jp nn => Sys2Proof.Machine.execJp nn s
  | .outNA n => Sys2Proof.Machine.execOutNA n s
  | .inAN n => Sys2Proof.Machine.execInAN n s
  | .exSpHl => Sys2Proof.Machine.execExSpHl s
  | .exSpXy x => Sys2Proof.Machine.execExSpXy x s
  | .exDeHl => Sys2Proof.Machine.execExDeHl s
  | .di => Sys2Proof.Machine.execDi s
  | .ei => Sys2Proof.Machine.execEi s
  | .callCc cc nn => Sys2Proof.Machine.execCallCc cc nn s
  | .pushRr p => Sys2Proof.Machine.execPushRr p s
  | .pushXy x => Sys2Proof.Machine.execPushXy x s
  | .call nn => Sys2Proof.Machine.execCall nn s
  | .rst y => Sys2Proof.Machine.execRst y s
  | .ignored x j => Sys2Proof.Machine.execIgnored x j s
  | .rlcR r => Sys2Proof.Machine.execRlcR r s
  | .rlcMem => Sys2Proof.Machine.execRlcMem s
  | .rlcIdx x d => Sys2Proof.Machine.execRlcIdx x d s
  | .rlcIdxR x d r => Sys2Proof.Machine.execRlcIdxR x d r s
  | .rrcR r => Sys2Proof.Machine.execRrcR r s
  | .rrcMem => Sys2Proof.Machine.execRrcMem s
  | .rrcIdx x d => Sys2Proof.Machine.execRrcIdx x d s
  | .rrcIdxR x d r => Sys2Proof.Machine.execRrcIdxR x d r s
  | .rlR r => Sys2Proof.Machine.execRlR r s
  | .rlMem => Sys2Proof.Machine.execRlMem s
  | .rlIdx x d => Sys2Proof.Machine.execRlIdx x d s
  | .rlIdxR x d r => Sys2Proof.Machine.execRlIdxR x d r s
  | .rrR r => Sys2Proof.Machine.execRrR r s
  | .rrMem => Sys2Proof.Machine.execRrMem s
  | .rrIdx x d => Sys2Proof.Machine.execRrIdx x d s
  | .rrIdxR x d r => Sys2Proof.Machine.execRrIdxR x d r s
  | .slaR r => Sys2Proof.Machine.execSlaR r s
  | .slaMem => Sys2Proof.Machine.execSlaMem s
  | .slaIdx x d => Sys2Proof.Machine.execSlaIdx x d s
  | .slaIdxR x d r => Sys2Proof.Machine.execSlaIdxR x d r s
  | .sraR r => Sys2Proof.Machine.execSraR r s
  | .sraMem => Sys2Proof.Machine.execSraMem s
  | .sraIdx x d => Sys2Proof.Machine.execSraIdx x d s
  | .sraIdxR x d r => Sys2Proof.Machine.execSraIdxR x d r s
  | .sllR r => Sys2Proof.Machine.execSllR r s
  | .sllMem => Sys2Proof.Machine.execSllMem s
  | .sllIdx x d => Sys2Proof.Machine.execSllIdx x d s
  | .sllIdxR x d r => Sys2Proof.Machine.execSllIdxR x d r s
  | .srlR r => Sys2Proof.Machine.execSrlR r s
  | .srlMem => Sys2Proof.Machine.execSrlMem s
  | .srlIdx x d => Sys2Proof.Machine.execSrlIdx x d s
  | .srlIdxR x d r => Sys2Proof.Machine.execSrlIdxR x d r s
  | .bitR b r => Sys2Proof.Machine.execBitR b r s
  | .bitMem b => Sys2Proof.Machine.execBitMem b s
  | .bitIdx x d b z => Sys2Proof.Machine.execBitIdx x d b z s
  | .resR b r => Sys2Proof.Machine.execResR b r s
  | .resMem b => Sys2Proof.Machine.execResMem b s
  | .resIdx x d b => Sys2Proof.Machine.execResIdx x d b s
  | .resIdxR x d b r => Sys2Proof.Machine.execResIdxR x d b r s
  | .setR b r => Sys2Proof.Machine.execSetR b r s
  | .setMem b => Sys2Proof.Machine.execSetMem b s
  | .setIdx x d b => Sys2Proof.Machine.execSetIdx x d b s
  | .setIdxR x d b r => Sys2Proof.Machine.execSetIdxR x d b r s
  | .inRC r => Sys2Proof.Machine.execInRC r s
  | .inC => Sys2Proof.Machine.execInC s
  | .outCR r => Sys2Proof.Machine.execOutCR r s
  | .outC0 => Sys2Proof.Machine.execOutC0 s
  | .sbcHlRp p => Sys2Proof.Machine.execSbcHlRp p s
  | .adcHlRp p => Sys2Proof.Machine.execAdcHlRp p s
  | .ldMemRp p nn => Sys2Proof.Machine.execLdMemRp p nn s
  | .ldRpMem p nn => Sys2Proof.Machine.execLdRpMem p nn s
  | .neg y => Sys2Proof.Machine.execNeg y s
  | .retn y => Sys2Proof.Machine.execRetn y s
  | .reti => Sys2Proof.Machine.execReti s
  | .im y => Sys2Proof.Machine.execIm y s
  | .ldIA => Sys2Proof.Machine.execLdIA s
  | .ldRA => Sys2Proof.Machine.execLdRA s
  | .ldAI => Sys2Proof.Machine.execLdAI s
  | .ldAR => Sys2Proof.Machine.execLdAR s
  | .rrd => Sys2Proof.Machine.execRrd s
  | .rld => Sys2Proof.Machine.execRld s
  | .nopEd7 y0 => Sys2Proof.Machine.execNopEd7 y0 s
  | .holeX0 y z => Sys2Proof.Machine.execHoleX0 y z s
  | .holeX3 y z => Sys2Proof.Machine.execHoleX3 y z s
  | .holeX2LowY y2 z2 => Sys2Proof.Machine.execHoleX2LowY y2 z2 s
  | .holeX2HighZ y z2 => Sys2Proof.Machine.execHoleX2HighZ y z2 s
  | .ldi => Sys2Proof.Machine.execLdi s
  | .cpi => Sys2Proof.Machine.execCpi s
  | .ini => Sys2Proof.Machine.execIni s
  | .outi => Sys2Proof.Machine.execOuti s
  | .ldd => Sys2Proof.Machine.execLdd s
  | .cpd => Sys2Proof.Machine.execCpd s
  | .ind => Sys2Proof.Machine.execInd s
  | .outd => Sys2Proof.Machine.execOutd s
  | .ldir => Sys2Proof.Machine.execLdir s
  | .cpir => Sys2Proof.Machine.execCpir s
  | .inir => Sys2Proof.Machine.execInir s
  | .otir => Sys2Proof.Machine.execOtir s
  | .lddr => Sys2Proof.Machine.execLddr s
  | .cpdr => Sys2Proof.Machine.execCpdr s
  | .indr => Sys2Proof.Machine.execIndr s
  | .otdr => Sys2Proof.Machine.execOtdr s

end Sys2Proof.Machine
end

