-- ==== Sys2Proof/Machine/Fetch.lean ====
section
/-! DEFINITION. Fetching an instruction: the bytes that lie ahead, the cycles that read them (spec/30_encoding.md R140 to R144, R151,
R161), and the decoder state that they leave (R150). -/

namespace Sys2Proof.Machine

/-! ### The bytes ahead -/

/-- The `n` bytes at `a`, `a + 1`, …, modulo 2^16. -/
def Memory.bytesFrom (m : Memory) : Nat → Word → List Byte
  | 0, _ => []
  | n + 1, a => m.read a.toNat :: m.bytesFrom n (a + 1)

/-- The bytes that read cycles at PC, PC+1, … will take: those the host has scripted, then memory (log entries 1 and 9). -/
def State.upcoming (s : State) : List Byte :=
  s.dataIn ++ s.mem.bytesFrom Config.chainWindow (s.regs.pc + BitVec.ofNat 16 s.dataIn.length)

/-! ### The decoder state (R150) -/

/-- The decoder state after an opcode byte of an instruction (R150, "start"). -/
def Decoder.onOpcode (d : Decoder) (b : Byte) : Decoder :=
  match d.subset, xyOf b with
  | .none, some x => { d with modifier := some x }
  | .none, none =>
    if b = 0xED then { d with subset := .ed, modifier := none }
    else if b = 0xCB then { d with subset := .cb }
    else { d with x := fieldX b, y := fieldY b, z := fieldZ b, step := 0, started := true }
  | _, _ => { d with x := fieldX b, y := fieldY b, z := fieldZ b, step := 0, started := true }

/-- Main-table opcodes that name a memory operand at (HL), so that an index modifier gives them a displacement byte (R141, R154). HALT, and the
opcodes of x = 3, have none. -/
def takesDisplacement (x : BitVec 2) (y z : BitVec 3) : Bool :=
  match x.toNat with
  | 0 => y == 6 && (z == 4 || z == 5 || z == 6)
  | 1 => (y == 6) != (z == 6)
  | 2 => z == 6
  | _ => false

/-- The decoder state after a memory read: the displacement byte of an indexed form is kept, and of DDCB and FDCB the operation byte
too, which is decoded after the filler that follows (`Decoder.eaComputed`; R144, R150, R154). -/
def Decoder.onRead (d : Decoder) (v : Byte) : Decoder :=
  match d.modifier, d.subset with
  | some _, .cb =>
    if d.dispReady then (if d.started then d else { d with ddcbOp := v })
    else { d with disp := v, dispReady := true }
  | some _, .none =>
    if d.started && !d.dispReady && takesDisplacement d.x d.y d.z then { d with disp := v, dispReady := true } else d
  | _, _ => d

/-! ### The cycles of a fetch -/

/-- The cycles that read an instruction's bytes: an M1 fetch for each opcode byte, a memory read for each operand byte (R151, R161), and the
filler that DJNZ has between the two (R202). -/
inductive FetchCycle where
  | opcode
  | operand
  | filler (n : Nat)
deriving DecidableEq, Repr

/-- The cycles that read the bytes of one encoding: prefixes and opcodes by M1, the rest by memory reads (R140, R144, R151). -/
def fetchCycles : List Byte → List FetchCycle
  | [] => []
  | b :: tail =>
    match xyOf b with
    | some _ =>
      match tail with
      | [] => [.opcode]
      | op :: rest =>
        if op = 0xCB then .opcode :: .opcode :: rest.map fun _ => .operand
        else .opcode :: fetchCycles tail
    | none =>
      if b = 0xCB || b = 0xED then
        match tail with
        | [] => [.opcode]
        | _ :: rest => .opcode :: .opcode :: rest.map fun _ => .operand
      else if b = 0x10 then .opcode :: .filler 1 :: tail.map fun _ => .operand
      else .opcode :: tail.map fun _ => .operand

/-- An M1 fetch of an opcode or prefix byte, and the decoder's reading of it: `b <- instr` (R150). -/
def State.fetchOpcode (s : State) : State :=
  let s := s.ocf
  { s with dec := s.dec.onOpcode s.regs.instr }

/-- `imm8`: a memory read at PC, then PC + 1 (R11). -/
def State.fetchOperand (s : State) : State :=
  let v := s.busByte .mem s.regs.pc
  let s := s.afterRead s.regs.pc
  { s.setPc (s.regs.pc + 1) with dec := s.dec.onRead v }

/-- One cycle of a fetch. -/
def State.fetchCycle (s : State) (c : FetchCycle) : State :=
  match c with
  | .opcode => s.fetchOpcode
  | .operand => s.fetchOperand
  | .filler n => s.fill n

/-- The cycles of a fetch, in order. -/
def State.fetchAll (s : State) (cs : List FetchCycle) : State := cs.foldl State.fetchCycle s

/-- What the decoder reads next. A modifier already in the decoder state is a prefix byte that has been fetched (log entry 9). -/
def State.decodeNext (s : State) : Decoded :=
  match s.dec.modifier with
  | none => decode s.upcoming
  | some x => decode (x.byte :: s.upcoming)

/-- The cycles that fetch `i`, less the prefix byte that has been fetched already. -/
def State.fetchPlan (s : State) (i : Instr) : List FetchCycle :=
  match s.dec.modifier with
  | none => fetchCycles (encode i)
  | some _ => (fetchCycles (encode i)).drop 1

/-- Fetch the instruction `i`. -/
def State.fetchInstr (s : State) (i : Instr) : State := s.fetchAll (s.fetchPlan i)

end Sys2Proof.Machine
end

