-- ==== Sys2Proof/Machine/Interrupt.lean ====
section
/-! DEFINITION. Instruction boundaries and interrupts (spec/60_exceptions.md, spec/30_encoding.md R155): retirement, arbitration, and the NMI and
INT entry sequences. -/

namespace Sys2Proof.Machine

/-- The NMI entry point (R88, R379). -/
def nmiVector : Word := 0x0066

/-- The mode-1 entry point (R88, R383). -/
def mode1Vector : Word := 0x0038

/-- INT asserted on the latch, enabled and not deferred: the second condition of R374. -/
def State.acceptsInt (s : State) : Bool := !s.intLatch && s.regs.iff1 && !s.skipInt

/-- NMI pending and not deferred: the first condition of R374. -/
def State.acceptsNmi (s : State) : Bool := s.nmiPending && !s.skipNmi

/-- Clear both skip flags, name the entry and arm its first cycle: the part that the three cases of R374 share. -/
def State.arm (s : State) (e : Entry) (k : CycleKind) : State :=
  { s with
    skipInt := false
    skipNmi := false
    dec := { s.dec with entry := e }
    cycle := some (.armed k s.regs.pc 0 0) }

/-- INTERRUPT ARBITRATION, once at every instruction boundary (R374): NMI, else INT, else the next instruction. Acceptance clears `halted`
(R378). -/
def State.arbitrate (s : State) : State :=
  if s.acceptsNmi then
    { s.setRegs { s.regs with halted := false } with nmiPending := false }.arm .nmi .fetch
  else if s.acceptsInt then
    (s.setRegs { s.regs with halted := false, iff1 := false, iff2 := false }).arm .int .intAck
  else s.arm .none .fetch

/-- The address and data levels that a bus cycle leaves on the pins (R45): a fetch and an acknowledge end on the refresh address. -/
def PinVec.after (p : PinVec) : BusEvent → PinVec
  | .fetch _ v rf => { p with addr := rf, data := v }
  | .memRead a v => { p with addr := a, data := v }
  | .memWrite a v => { p with addr := a, data := v }
  | .ioRead a v => { p with addr := a, data := v }
  | .ioWrite a v => { p with addr := a, data := v }
  | .intAck _ v rf => { p with addr := rf, data := v }
  | .filler _ => p

/-- The pins as the last bus cycle of a transaction left them: the last cycle that is no filler counts (R45, R103). -/
def PinVec.afterAll (p : PinVec) : List BusEvent → PinVec
  | [] => p
  | .filler _ :: older => p.afterAll older
  | e :: _ => p.after e

/-- Let the pins show the transaction's last cycle. -/
def State.settlePins (s : State) : State := { s with pins := { s.pins with level := s.pins.level.afterAll s.events } }

/-- RETIREMENT (R155): the decoder state is cleared, and arbitration chooses the next cycle. Q has been set by the meaning. -/
def State.retire (s : State) : State := { s with dec := Decoder.reset }.arbitrate.settlePins

/-- THE NMI ENTRY (R379): a fetch whose byte is ignored, PC back, F(1), IFF1 = 0, the return PC on the stack, PC = 0x0066. -/
def State.nmiEntry (s : State) : State :=
  let s := s.ocf
  let s := s.setRegs { s.regs with pc := s.regs.pc - 1, iff1 := false }
  s.pushReturn.enterHandler nmiVector

/-- `v` is the opcode of an RST: `v & 0xC7 = 0xC7` (R382). -/
def isRst (v : Byte) : Bool := v &&& 0xC7 == 0xC7

/-- THE INT ENTRY (R380 to R384): the acknowledge, F(1), the return PC on the stack, and the target that the mode gives. In mode 0 a byte that
is no RST is refused before F(1), under the parameter `IM0_NON_RST` (R382). -/
def State.intEntry (s : State) : Out :=
  s.inta fun v s =>
    match s.regs.im with
    | .im0 =>
      if isRst v then .next (s.pushReturn.enterHandler ((v &&& 0x38).setWidth 16))
      else match Config.im0NonRst with
        | .refuse => .refused .im0NonRst
    | .im1 => .next (s.pushReturn.enterHandler mode1Vector)
    | .im2 => s.pushReturn.read16 (mk16 s.regs.i v) fun target s => .next (s.enterHandler target)

/-- A halted no-op: the halted fetch executes as NOP (R97, R241). -/
def State.haltedNop (s : State) : State :=
  let s := s.fetchOpcode
  s.setRegs { s.regs with q := 0 }

end Sys2Proof.Machine
end

