-- ==== Sys2Proof/Machine/Pins.lean ====
section
/-! DEFINITION. The pin bus and reset (spec/10_state.md R44, R45; spec/20_memory.md R91, R111, R112, R116, R117). -/

namespace Sys2Proof.Machine

/-- Every address line driven (dir = 1), or every data line. -/
def allLines (n : Nat) : BitVec n := BitVec.allOnes n

/-- Merge the host's levels into the input pins: "outputs never overwritten" (R91). -/
def PinBus.merge (p : PinBus) (inp : PinVec) : PinBus :=
  { p with level := {
      addr := (p.level.addr &&& p.dir.addr) ||| (inp.addr &&& ~~~p.dir.addr)
      data := (p.level.data &&& p.dir.data) ||| (inp.data &&& ~~~p.dir.data)
      m1 := if p.dir.m1 then p.level.m1 else inp.m1
      mreq := if p.dir.mreq then p.level.mreq else inp.mreq
      iorq := if p.dir.iorq then p.level.iorq else inp.iorq
      rd := if p.dir.rd then p.level.rd else inp.rd
      wr := if p.dir.wr then p.level.wr else inp.wr
      rfsh := if p.dir.rfsh then p.level.rfsh else inp.rfsh
      halt := if p.dir.halt then p.level.halt else inp.halt
      int := if p.dir.int then p.level.int else inp.int
      nmi := if p.dir.nmi then p.level.nmi else inp.nmi
      wait := if p.dir.wait then p.level.wait else inp.wait
      busack := if p.dir.busack then p.level.busack else inp.busack
      busreq := if p.dir.busreq then p.level.busreq else inp.busreq
      reset := if p.dir.reset then p.level.reset else inp.reset } }

/-- The control outputs at their idle levels and driven; the HALT pin shows `!halted` (R37, R45). -/
def PinBus.controlIdle (p : PinBus) (halted : Bool) : PinBus where
  level := { p.level with
    m1 := true, mreq := true, iorq := true, rd := true, wr := true, rfsh := true, busack := true, halt := !halted }
  dir := { p.dir with
    m1 := true, mreq := true, iorq := true, rd := true, wr := true, rfsh := true, busack := true, halt := true }

/-- `A <- a`, address dir = 1. -/
def PinBus.driveAddr (p : PinBus) (a : Word) : PinBus where
  level := { p.level with addr := a }
  dir := { p.dir with addr := allLines 16 }

/-- `D <- v`, data dir = 1. -/
def PinBus.driveData (p : PinBus) (v : Byte) : PinBus where
  level := { p.level with data := v }
  dir := { p.dir with data := allLines 8 }

/-- data dir = 0. -/
def PinBus.floatData (p : PinBus) : PinBus := { p with dir := { p.dir with data := 0 } }

/-- The released pattern: the three-state outputs float and BUSACK is low (R111). -/
def PinBus.release (p : PinBus) : PinBus where
  level := { p.level with busack := false }
  dir := { p.dir with addr := 0, data := 0, mreq := false, iorq := false, rd := false, wr := false }

/-- The bus is driven again: strobes idle, the address last driven, BUSACK high, data lines inputs (R112). -/
def PinBus.retake (p : PinBus) (a : Word) : PinBus where
  level := { p.level with addr := a, mreq := true, iorq := true, rd := true, wr := true, busack := true }
  dir := { p.dir with addr := allLines 16, mreq := true, iorq := true, rd := true, wr := true }

/-- The power-on pin pattern (R116): the floating lines and the inputs keep the level the host last gave them. -/
def PinBus.powerOn (p : PinBus) : PinBus where
  level := { p.level with m1 := true, rfsh := true, halt := true, busack := true }
  dir := .powerOnDir

/-- Change levels. -/
def PinBus.mapLevel (p : PinBus) (g : PinVec → PinVec) : PinBus := { p with level := g p.level }

/-- Change the pins. -/
def State.mapPins (s : State) (g : PinBus → PinBus) : State := { s with pins := g s.pins }

/-- Leaving Reset (R117): the reset values of R47 are written, and a Fetch is armed with `t = -1`. The mode passes through Idle-to-Fetch to
Running in one call (R42). What belongs to the host stays: memory, the devices, the clock phase and the pins (R414). -/
def State.leaveReset (s : State) : State :=
  { s with
    regs := .reset
    nmiPending := false
    intLatch := true
    skipInt := false
    skipNmi := false
    dec := .reset
    mode := .running
    cycle := some (.armed .fetch Regs.reset.pc 0 0)
    flight := none }

end Sys2Proof.Machine
end

