-- ==== Sys2Proof/Machine/Transact.lean ====
section
/-! DEFINITION. One transaction of the core (spec/00_scope.md R6): an instruction, a halted no-op, or the acceptance of an interrupt, from one
boundary to the next. -/

namespace Sys2Proof.Machine

/-- Run the instruction `i` that the decoder has read: fetch its bytes, then its meaning, then retirement (R150, R155). -/
def State.runInstr (s : State) (i : Instr) : Out := andThen (exec i (s.fetchInstr i)) fun s => .next s.retire

/-- Fetch one byte of a prefix chain that has no end in sight: no boundary, and the decoder state keeps the modifier (R152; log entry 9). The
pins show that fetch, which ends on the refresh address (R45, R96). -/
def State.fetchPrefix (s : State) : State :=
  let s := s.fetchOpcode.settlePins
  { s with cycle := some (.armed .fetch s.regs.pc 0 0) }

/-- The next instruction. -/
def State.instruction (s : State) : Out :=
  match s.decodeNext with
  | .ok i _ => s.runInstr i
  | .truncated => .next s.fetchPrefix

/-- ONE TRANSACTION: what the armed cycle begins (R150, R374). -/
def State.transact (s : State) : Out :=
  match s.dec.entry with
  | .nmi => .next s.nmiEntry.retire
  | .int => andThen s.intEntry fun s => .next s.retire
  | .none => if s.regs.halted then .next s.haltedNop.retire else s.instruction

/-- The beginning of the transaction that the pin level has begun: the registers and the decoder state of its start, and on the data bus the
bytes that its finished cycles have read, then `more` (log entry 8). -/
def State.restart (s : State) (fl : Flight) (more : List Byte) : State :=
  { s with regs := fl.regs, dec := fl.dec, dataIn := fl.got ++ more, flight := none, events := [] }

/-- The transaction in flight, if any, from its beginning. -/
def State.rewind (s : State) : State :=
  match s.flight with
  | none => { s with events := [] }
  | some fl => s.restart fl s.dataIn

/-- Store what a finished bus cycle wrote. -/
def State.commitEvent (s : State) : BusEvent → State
  | .memWrite a v => { s with mem := s.mem.write a.toNat v }
  | .ioWrite a v => { s with portOut := (a.toNat, v) :: s.portOut }
  | _ => s

/-- The bus cycles of a transaction's outcome, oldest first. -/
def cyclesOf (o : Out) : List BusEvent :=
  match o with
  | .next t => t.events.reverse
  | .fault _ => []
  | .refused _ => []

/-- A write cycle that has begun: at least its T1 has come, and WAIT may have set `t` back since (R94). THE MODEL'S CHOICE (log entry 18): R414 says of
every abandoned write that it "may or may not have reached the device"; the model reads that of a cycle that has begun, whatever its strobe
shows. An armed write whose T1 has not come (`t = -1`) has put nothing on the pins and has reached nothing. -/
def Cycle.writing (c : Cycle) : Bool := (c.kind == .memWrite || c.kind == .ioWrite) && decide (0 ≤ c.t)

/-- Store what the write cycle `c` writes. -/
def State.commitCycle (s : State) (c : Cycle) : State :=
  match c.kind with
  | .memWrite => s.commitEvent (.memWrite c.addr c.out)
  | .ioWrite => s.commitEvent (.ioWrite c.addr c.out)
  | _ => s

/-- The write cycle that RESET abandons, if one has begun. Put off by a bus release it has run every one of its pin actions (R110), and the host
"keeps what was written" (R387); before that it "may or may not have reached the device" (R414), and a free bit decides (log entry 18). -/
def State.abandonWrite (s : State) : State :=
  match s.cycle with
  | some c =>
    if c.writing then
      if c.release = .none then
        let s1 := { s with freeCtr := s.freeCtr + 1 }
        if (Config.freeByte s.freeCtr).getLsbD 0 then s1.commitCycle c else s1
      else s.commitCycle c
    else s
  | none => s

/-- The writes of the abandoned transaction that have reached the host stand (R387, R414). -/
def State.abandonFlight (s : State) : State :=
  match s.flight with
  | none => s
  | some fl => (((cyclesOf (s.restart fl []).transact).take fl.cycles).foldl State.commitEvent s).abandonWrite

/-- ENTERING RESET (R116): the cycle and the instruction in flight are abandoned, the decoder state is cleared, and the pins take the
power-on pattern. -/
def State.enterReset (s : State) : State :=
  { s.abandonFlight.mapPins PinBus.powerOn with mode := .reset, dec := .reset, cycle := none, flight := none }

end Sys2Proof.Machine
end

