-- ==== Sys2Proof/Machine/Sampling.lean ====
section
/-! DEFINITION. The parts of one step of the transaction level that surround the transaction: the pins at its start, the INT sample of its last
rising edge, and the placing of a program word. -/

namespace Sys2Proof.Machine

/-- The pins that a transaction's first cycle sets: control pins idle, address lines driven, data lines inputs (R45, R96, R102). -/
def State.openPins (s : State) : State :=
  s.mapPins fun p => ((p.controlIdle s.regs.halted).driveAddr s.regs.pc).floatData

/-- INT as the transaction's last rising edge samples it (R92): one level for the whole step (log entry 14). -/
def State.sampleInt (s : State) : State := { s with intLatch := s.pins.level.int }

/-- A step of a running core: one transaction (R6). -/
def State.runStep (s : State) : Out :=
  s.rewind.sampleInt.openPins.transact

/-- ONE STEP: RESET first (R387, R390); else leave Reset if the core is in it (R117), and run one transaction. -/
def State.stepOnce (s : State) : Out :=
  if !s.pins.level.reset then .next { s.enterReset with events := [] }
  else match s.mode with
    | .running => s.runStep
    | .reset => s.leaveReset.runStep
    | .idleToFetch => s.leaveReset.runStep

/-- `s` ready to fetch an instruction at PC: running, not in flight, no interrupt entry chosen, not halted, RESET high, and nothing scripted on
the data bus. -/
def State.readyToFetch (s : State) : State :=
  { s with
    regs := { s.regs with halted := false }
    dec := .reset
    mode := .running
    cycle := some (.armed .fetch s.regs.pc 0 0)
    flight := none
    dataIn := []
    pins := { s.pins with level := { s.pins.level with reset := true } } }

/-- The bytes of a table word in memory at PC. -/
def State.placeWord (s : State) (nbits w : Nat) : State :=
  { s.readyToFetch with mem := s.mem.writeList s.regs.pc (tableWordBytes nbits w) }

end Sys2Proof.Machine
end

