-- ==== Sys2Proof/Machine/Step.lean ====
section
/-! DEFINITION. The step of the model, at the transaction level (spec/00_scope.md R6), and the host's way to place an instruction. -/

namespace Sys2Proof.Machine

/-- One step: an instruction, a halted no-op, an interrupt acceptance, or a stay in Reset. -/
def step (s : State) : Host.Outcome State Fault Refusal := s.stepOnce

/-- `s` with the instruction whose table word is `w` stored where `step` fetches next (host name). -/
def State.withFetchWord (s : State) (nbits w : Nat) : State := s.placeWord nbits w

end Sys2Proof.Machine
end

