-- ==== Sys2Proof/Machine/BusCycle.lean ====
section
/-! DEFINITION. The bus-cycle kinds, half-edge by half-edge (spec/20_memory.md R93 to R105): each kind's length, its WAIT edge and its pin
actions. -/

namespace Sys2Proof.Machine

/-- The nominal number of T-states `N` of a cycle (R105). -/
def Cycle.nominal (c : Cycle) : Nat :=
  match c.kind with
  | .fetch => 4 | .memRead => 3 | .memWrite => 3 | .ioRead => 4 | .ioWrite => 4 | .intAck => 6 | .filler => c.fillT

/-- The WAIT sampling half-edge `h_w`; a filler has none (R94, R96 to R103). -/
def CycleKind.waitHalf : CycleKind → Option Nat
  | .fetch => some 3 | .memRead => some 3 | .memWrite => some 3 | .ioRead => some 5 | .ioWrite => some 5
  | .intAck => some 7 | .filler => none

/-- Every kind but the filler drives the bus (R95). -/
def CycleKind.drivesBus (k : CycleKind) : Bool := k != .filler

/-- The kinds whose cycle takes a byte from the data bus. -/
def CycleKind.reads : CycleKind → Bool
  | .fetch => true | .memRead => true | .ioRead => true | .intAck => true | .memWrite => false | .ioWrite => false | .filler => false

/-- T1 rising of every bus cycle: control pins to idle, `A <- a`, address dir = 1 (R45, R96 to R102). -/
def State.t1 (s : State) (a : Word) : State := s.mapPins fun p => (p.controlIdle s.regs.halted).driveAddr a

/-- Fetch (R96, R97). At h = 4 the byte is captured, the refresh address is driven and PC, R and `instr` change. -/
def State.actFetch (s : State) (c : Cycle) (h : Nat) : State × Cycle :=
  match h with
  | 0 => ((s.t1 s.regs.pc).mapPins fun p => p.floatData.mapLevel fun l => { l with m1 := false }, { c with addr := s.regs.pc })
  | 1 => (s.mapPins fun p => p.mapLevel fun l => { l with mreq := false, rd := false }, c)
  | 4 =>
    ((s.mapPins fun p => (p.mapLevel fun l => { l with m1 := true, mreq := true, rd := true, rfsh := false }).driveAddr s.regs.ir).setRegs
        (s.regs.fetched s.pins.level.data),
      { c with got := s.pins.level.data, addr := s.regs.ir })
  | 5 => (s.mapPins fun p => p.mapLevel fun l => { l with mreq := false }, c)
  | 7 => (s.mapPins fun p => p.mapLevel fun l => { l with mreq := true, rfsh := true }, c)
  | _ => (s, c)

/-- Memory read (R98). -/
def State.actMemRead (s : State) (c : Cycle) (h : Nat) : State × Cycle :=
  match h with
  | 0 => ((s.t1 c.addr).mapPins PinBus.floatData, c)
  | 1 => (s.mapPins fun p => p.mapLevel fun l => { l with mreq := false, rd := false }, c)
  | 5 => (s.mapPins fun p => p.mapLevel fun l => { l with mreq := true, rd := true }, { c with got := s.pins.level.data })
  | _ => (s, c)

/-- Memory write (R99). -/
def State.actMemWrite (s : State) (c : Cycle) (h : Nat) : State × Cycle :=
  match h with
  | 0 => (s.t1 c.addr, c)
  | 1 => (s.mapPins fun p => (p.mapLevel fun l => { l with mreq := false }).driveData c.out, c)
  | 3 => (s.mapPins fun p => p.mapLevel fun l => { l with wr := false }, c)
  | 5 => (s.mapPins fun p => (p.mapLevel fun l => { l with mreq := true, wr := true }).floatData, c)
  | _ => (s, c)

/-- I/O read (R100). -/
def State.actIoRead (s : State) (c : Cycle) (h : Nat) : State × Cycle :=
  match h with
  | 0 => ((s.t1 c.addr).mapPins PinBus.floatData, c)
  | 2 => (s.mapPins fun p => p.mapLevel fun l => { l with iorq := false, rd := false }, c)
  | 7 => (s.mapPins fun p => p.mapLevel fun l => { l with iorq := true, rd := true }, { c with got := s.pins.level.data })
  | _ => (s, c)

/-- I/O write (R101). -/
def State.actIoWrite (s : State) (c : Cycle) (h : Nat) : State × Cycle :=
  match h with
  | 0 => (s.t1 c.addr, c)
  | 1 => (s.mapPins fun p => p.driveData c.out, c)
  | 2 => (s.mapPins fun p => p.mapLevel fun l => { l with iorq := false, wr := false }, c)
  | 7 => (s.mapPins fun p => (p.mapLevel fun l => { l with iorq := true, wr := true }).floatData, c)
  | _ => (s, c)

/-- Interrupt acknowledge (R102): PC does not move. -/
def State.actIntAck (s : State) (c : Cycle) (h : Nat) : State × Cycle :=
  match h with
  | 0 => ((s.t1 s.regs.pc).mapPins fun p => p.floatData.mapLevel fun l => { l with m1 := false }, { c with addr := s.regs.pc })
  | 5 => (s.mapPins fun p => p.mapLevel fun l => { l with iorq := false }, c)
  | 8 =>
    ((s.mapPins fun p => (p.mapLevel fun l => { l with m1 := true, iorq := true, rfsh := false }).driveAddr s.regs.ir).setRegs
        { s.regs with r := refreshInc s.regs.r },
      { c with got := s.pins.level.data, addr := s.regs.ir })
  | 9 => (s.mapPins fun p => p.mapLevel fun l => { l with mreq := false }, c)
  | 11 => (s.mapPins fun p => p.mapLevel fun l => { l with mreq := true, rfsh := true }, c)
  | _ => (s, c)

/-- The actions of half-edge `h` of the cycle `c` (R93): "A half-edge with no entry in a table changes no pin". A filler has none (R103). -/
def State.act (s : State) (c : Cycle) (h : Nat) : State × Cycle :=
  match c.kind with
  | .fetch => s.actFetch c h
  | .memRead => s.actMemRead c h
  | .memWrite => s.actMemWrite c h
  | .ioRead => s.actIoRead c h
  | .ioWrite => s.actIoWrite c h
  | .intAck => s.actIntAck c h
  | .filler => (s, c)

/-- What one half-edge makes of the active cycle (R91, R104, R115). -/
inductive Advance where
  | going (s : State)
  | finished (s : State) (c : Cycle)
  | violation
deriving DecidableEq, Repr

/-- A rising half-edge of the cycle `c`: `t` counts, the actions of `h = 2t` run, and BUSREQ is sampled in the last nominal T-state (R93, R95); in a
release, the steps of R111 and R112. -/
def State.rise (s : State) (c : Cycle) : Advance :=
  match c.release with
  | .none =>
    let c := { c with t := c.t + 1 }
    let t := c.t.toNat
    if t ≥ c.nominal then .violation
    else
      let (s, c) := s.act c (2 * t)
      let last := c.kind.drivesBus && t + 1 == c.nominal
      .going { s with cycle := some (if last then { c with releaseStaged := !s.pins.level.busreq } else c) }
  | .pending => .going { s.mapPins PinBus.release with cycle := some { c with release := .released } }
  | .released =>
    if s.pins.level.busreq then .going { s.mapPins (·.retake c.addr) with cycle := some { c with release := .ending } }
    else .going s
  | .ending => .violation

/-- A falling half-edge of the cycle `c`: the actions of `h = 2t + 1`, the WAIT sample at `h_w`, and the end of the cycle at `h = 2N - 1`, put off
while a release is staged (R93, R94, R104, R110); in a release, R113. -/
def State.fall (s : State) (c : Cycle) : Advance :=
  match c.release with
  | .none =>
    if c.t < 0 then .going s
    else
      let t := c.t.toNat
      if t ≥ c.nominal then .violation
      else
        let (s, c) := s.act c (2 * t + 1)
        if c.kind.waitHalf == some (2 * t + 1) && !s.pins.level.wait then .going { s with cycle := some { c with t := c.t - 1 } }
        else if t + 1 == c.nominal then
          if c.releaseStaged then .going { s with cycle := some { c with release := .pending } } else .finished s c
        else .going { s with cycle := some c }
  | .pending => .going s
  | .released => .going s
  | .ending => .finished s c

end Sys2Proof.Machine
end

