-- ==== Sys2Proof/Machine/Clock.lean ====
section
/-! DEFINITION. The pin level (spec/00_scope.md R6, spec/20_memory.md R90, R91): one call of `clock` per half clock edge. -/

namespace Sys2Proof.Machine

/-- The bus cycle that realises an event of the transaction level (R125), as it is armed. -/
def BusEvent.toCycle : BusEvent → Cycle
  | .fetch a _ _ => .armed .fetch a 0 0
  | .memRead a _ => .armed .memRead a 0 0
  | .memWrite a v => .armed .memWrite a v 0
  | .ioRead a _ => .armed .ioRead a 0 0
  | .ioWrite a v => .armed .ioWrite a v 0
  | .intAck a _ _ => .armed .intAck a 0 0
  | .filler n => .armed .filler 0 0 n

/-- The nominal T-states of an event (R105). -/
def BusEvent.tStates (e : BusEvent) : Nat := e.toCycle.nominal

/-- The T-states of a state's last transaction: the sum of its cycles' nominal lengths (R12, R420). -/
def State.tStates (s : State) : Nat := (s.events.map BusEvent.tStates).foldr (· + ·) 0

/-- One more cycle of an instruction that has started: its `step` counts (R41, R150). -/
def Decoder.counted (d : Decoder) (started : Bool) : Decoder := { d with step := if started then d.step + 1 else d.step }

/-- The decoder state after a finished cycle. An interrupt entry returns before `b <- instr` and leaves it (R150); else an opcode byte is read,
a memory read may be a displacement or the DDCB operation byte, and the first filler after the displacement computes the indexed address
(R144, R154); the position in an instruction's cycle sequence counts. -/
def Decoder.afterCycle (d : Decoder) (c : Cycle) (instr : Byte) : Decoder :=
  match d.entry with
  | .nmi => d
  | .int => d
  | .none => match c.kind with
    | .fetch => d.onOpcode instr
    | .memRead => (d.onRead c.got).counted d.started
    | .filler => (if d.modifier.isSome && d.dispReady && !d.eaReady then d.eaComputed else d).counted d.started
    | .memWrite => d.counted d.started
    | .ioRead => d.counted d.started
    | .ioWrite => d.counted d.started
    | .intAck => d.counted d.started

/-- The flight with one more finished cycle. -/
def Flight.push (fl : Flight) (c : Cycle) : Flight :=
  { fl with got := if c.kind.reads then fl.got ++ [c.got] else fl.got, cycles := fl.cycles + 1 }

/-- The decoder step (R91, R104, R150): the transaction in flight, run on the bytes read so far, says which cycle comes next; when there is none,
the transaction is over and its result stands (log entry 8). -/
def State.decoderStep (s : State) (c : Cycle) : Out :=
  match s.flight with
  | none => .fault .contractViolation
  | some old =>
    let fl := old.push c
    andThen (s.restart fl []).transact fun t =>
      match t.events.reverse[fl.cycles]? with
      | some e =>
        .next { s with cycle := some e.toCycle, flight := some fl, dec := s.dec.afterCycle c s.regs.instr }
      | none =>
        if t.events.length = fl.cycles then .next { t with pins := s.pins, dataIn := s.dataIn }
        else .fault .contractViolation

/-- The pin level's record of the state in which a transaction begins. -/
def State.openFlight (s : State) : State :=
  match s.flight with
  | some _ => s
  | none => { s with flight := some ⟨s.regs, s.dec, [], 0⟩ }

/-- Forward the half-edge to the active cycle and run the decoder step when it ends (R91). INT is sampled on a rising edge (R92). -/
def State.advance (s : State) : Out :=
  match s.cycle with
  | none => .fault .contractViolation
  | some c =>
    let outcome :=
      if s.clk then ({ s.openFlight with intLatch := s.pins.level.int } : State).rise c else s.fall c
    match outcome with
    | .going t => .next t
    | .finished t done => t.decoderStep done
    | .violation => .fault .contractViolation

/-- THE HOST CALL `clock(in)` (R91), in the order given there. The pins it returns are those of the next state. -/
def State.clock (s : State) (inp : PinVec) : Out :=
  let s := { s with clk := !s.clk }.mapPins (·.merge inp)
  if !s.pins.level.reset then .next s.enterReset
  else match s.mode with
    | .running => s.advance
    | .reset => if s.clk then s.leaveReset.advance else .next s
    | .idleToFetch => if s.clk then s.leaveReset.advance else .next s

/-- Several calls, one input vector each. -/
def State.clocks (s : State) : List PinVec → Out
  | [] => .next s
  | v :: rest => andThen (s.clock v) fun t => t.clocks rest

end Sys2Proof.Machine
end

