-- ==== Sys2Proof/Machine/HostCalls.lean ====
section
/-! DEFINITION. The other entry points of the host (spec/60_exceptions.md R372, R401, R402): the NMI trigger, register inspection and register
injection. -/

namespace Sys2Proof.Machine

/-- `trigger_nmi()`: the flip-flop is set, and nothing else changes (R372). -/
def State.triggerNmi (s : State) : State := { s with nmiPending := true }

/-- Between the `clock` call that retired an instruction and the next one (R155, R401). -/
def State.atBoundary (s : State) : Bool :=
  s.mode == .running && s.flight.isNone && s.dec.modifier.isNone && !s.dec.started

/-- Free register values, a fresh choice per index (log entry 12). -/
def Regs.unspecified (k : Nat) : Regs :=
  let w := fun j => Config.freeWord (16 * k + j)
  { a := hi8 (w 0), f := lo8 (w 0), b := hi8 (w 1), c := lo8 (w 1), d := hi8 (w 2), e := lo8 (w 2), h := hi8 (w 3), l := lo8 (w 3),
    aAlt := hi8 (w 4), fAlt := lo8 (w 4), bAlt := hi8 (w 5), cAlt := lo8 (w 5), dAlt := hi8 (w 6), eAlt := lo8 (w 6),
    hAlt := hi8 (w 7), lAlt := lo8 (w 7), ix := w 8, iy := w 9, sp := w 10, pc := w 11, i := hi8 (w 12), r := lo8 (w 12),
    wz := w 13, instr := hi8 (w 14), q := lo8 (w 14), iff1 := (w 15).getLsbD 0, iff2 := (w 15).getLsbD 1,
    halted := (w 15).getLsbD 2,
    im := if (w 15).getLsbD 3 then .im1 else if (w 15).getLsbD 4 then .im2 else .im0 }

/-- `get_registers()`: the register file at a boundary; unspecified values in the middle of an instruction and in Reset (R401). -/
def State.getRegisters (s : State) : Regs := if s.atBoundary then s.regs else .unspecified s.freeCtr

/-- A register file as a host may inject it: `int_mode` is two bits, so that the value 3 can be asked for (R34, R402). -/
structure RegImage where
  regs : Regs
  intMode : BitVec 2
deriving DecidableEq, Repr

/-- The interrupt mode of a two-bit `int_mode`; there is none for 3 (R34). -/
def intModeOf (v : BitVec 2) : Option IntMode :=
  match v.toNat with
  | 0 => some .im0 | 1 => some .im1 | 2 => some .im2 | _ => none

/-- `set_registers(rf)` (R402): at a boundary, and in Reset, where leaving Reset overwrites the values; refused in the middle of an instruction and
for `int_mode = 3`. The armed cycle is not armed again. -/
def State.setRegisters (s : State) (rf : RegImage) : Out :=
  if s.mode == .running && !s.atBoundary then .refused .injectionMidInstruction
  else match intModeOf rf.intMode with
    | none => .refused .injectionIntMode3
    | some m => .next (s.setRegs { rf.regs with im := m })

end Sys2Proof.Machine
end

