-- ==== Sys2Proof/Machine/PinLayout.lean ====
section
/-! DEFINITION. Raw pin words under the parameter `PIN_LAYOUT` (spec/00_scope.md R8): the layout is an argument, a list that names the pin at each
bit position. -/

namespace Sys2Proof.Machine

/-- The 37 pins by name (R44). -/
inductive PinName where
  | a (n : Fin 16)
  | d (n : Fin 8)
  | m1 | mreq | iorq | rd | wr | rfsh | halt | int | nmi | wait | busack | busreq | reset
deriving DecidableEq, Repr

/-- The level of a pin. -/
def PinVec.get (v : PinVec) : PinName → Bool
  | .a n => v.addr.getLsbD n
  | .d n => v.data.getLsbD n
  | .m1 => v.m1 | .mreq => v.mreq | .iorq => v.iorq | .rd => v.rd | .wr => v.wr | .rfsh => v.rfsh | .halt => v.halt
  | .int => v.int | .nmi => v.nmi | .wait => v.wait | .busack => v.busack | .busreq => v.busreq | .reset => v.reset

/-- A pin vector from the level of each pin. -/
def PinVec.ofLevels (g : PinName → Bool) : PinVec where
  addr := BitVec.ofFnLE fun n => g (.a n)
  data := BitVec.ofFnLE fun n => g (.d n)
  m1 := g .m1
  mreq := g .mreq
  iorq := g .iorq
  rd := g .rd
  wr := g .wr
  rfsh := g .rfsh
  halt := g .halt
  int := g .int
  nmi := g .nmi
  wait := g .wait
  busack := g .busack
  busreq := g .busreq
  reset := g .reset

/-- The 37 pins. -/
def PinName.all : List PinName :=
  (List.finRange 16).map .a ++ (List.finRange 8).map .d ++
    [.m1, .mreq, .iorq, .rd, .wr, .rfsh, .halt, .int, .nmi, .wait, .busack, .busreq, .reset]

/-- A layout: the pin at each bit position, from bit 0 up. -/
abbrev PinLayout := List PinName

/-- A layout is a bijection from pin names to bit positions (R8): it names every pin once. -/
def PinLayout.valid (lay : PinLayout) : Bool := decide lay.Nodup && PinName.all.all fun p => lay.contains p

/-- The raw word of a pin vector. -/
def PinLayout.pack (lay : PinLayout) (v : PinVec) : Nat := (lay.map v.get).foldr (fun b acc => bit01 b + 2 * acc) 0

/-- The pin vector of a raw word. -/
def PinLayout.unpack (lay : PinLayout) (w : Nat) : PinVec := PinVec.ofLevels fun p => w.testBit (lay.idxOf p)

/-- `clock` on a raw pin word (R8, R91); the returned words are the next state's levels and directions, packed. -/
def State.clockRaw (lay : PinLayout) (s : State) (w : Nat) : Out := s.clock (lay.unpack w)

/-- The raw words that `clock` returns: state and dir (R91). -/
def State.rawPins (lay : PinLayout) (s : State) : Nat × Nat := (lay.pack s.pins.level, lay.pack s.pins.dir)

end Sys2Proof.Machine
end

