-- ==== Sys2Proof/Safety.lean ====
section
/-! DEFINITION. The terms that claims are made in: the invariant of the machine, what an instruction may write (spec/10_state.md R46), where it
stores, how long it takes (spec/70_reset_and_hazards.md R420), and the register transform with its bus cycles (spec/20_memory.md R125). -/

namespace Sys2Proof.Machine

/-! ### The invariant -/

/-- What an accepted interrupt has done to the registers by the time its entry begins: `halted` is cleared, and for INT both flip-flops (R374,
R378). -/
def Entry.holds (e : Entry) (r : Regs) : Bool :=
  match e with
  | .none => true
  | .nmi => !r.halted
  | .int => !r.halted && !r.iff1 && !r.iff2

/-- THE INVARIANT that every step keeps. -/
structure Inv (s : State) : Prop where
  /-- Memory is in its canonical form. -/
  memory : s.mem.wf = true
  /-- The five inputs are never driven (R44). -/
  inputs : s.pins.dir.int = false ∧ s.pins.dir.nmi = false ∧ s.pins.dir.wait = false ∧ s.pins.dir.busreq = false ∧ s.pins.dir.reset = false
  /-- M1, RFSH, HALT and BUSACK never float (R44). -/
  driven : s.pins.dir.m1 = true ∧ s.pins.dir.rfsh = true ∧ s.pins.dir.halt = true ∧ s.pins.dir.busack = true
  /-- "There is exactly one active cycle while `mode = Running`, and none in Reset" (R43); no state stays in Idle-to-Fetch. -/
  cycle : (s.mode = .running ∧ s.cycle.isSome = true) ∨ (s.mode = .reset ∧ s.cycle = none ∧ s.flight = none)
  /-- `skip_nmi` is never set, and `skip_int` is consumed at every boundary (R376). -/
  skips : s.skipInt = false ∧ s.skipNmi = false
  /-- An accepted interrupt has cleared `halted`, and an accepted INT both flip-flops (R374, R378). -/
  accepted : (s.dec.entry ≠ .none → s.regs.halted = false) ∧ (s.dec.entry = .int → s.regs.iff1 = false ∧ s.regs.iff2 = false)
  /-- The same of the registers that the instruction or entry in flight began with. -/
  flight : s.flight.all (fun fl => fl.dec.entry.holds fl.regs) = true

/-! ### The registers by name -/

/-- The registers of the register file (R401). -/
inductive RegName where
  | a | f | b | c | d | e | h | l | aAlt | fAlt | bAlt | cAlt | dAlt | eAlt | hAlt | lAlt | ix | iy | sp | pc | i | r | wz | instr
  | iff1 | iff2 | im | q | halted
deriving DecidableEq, Repr

/-- Two register files agree on a register. -/
def Regs.agree (x y : Regs) : RegName → Bool
  | .a => x.a == y.a | .f => x.f == y.f | .b => x.b == y.b | .c => x.c == y.c | .d => x.d == y.d | .e => x.e == y.e
  | .h => x.h == y.h | .l => x.l == y.l | .aAlt => x.aAlt == y.aAlt | .fAlt => x.fAlt == y.fAlt | .bAlt => x.bAlt == y.bAlt
  | .cAlt => x.cAlt == y.cAlt | .dAlt => x.dAlt == y.dAlt | .eAlt => x.eAlt == y.eAlt | .hAlt => x.hAlt == y.hAlt
  | .lAlt => x.lAlt == y.lAlt | .ix => x.ix == y.ix | .iy => x.iy == y.iy | .sp => x.sp == y.sp | .pc => x.pc == y.pc
  | .i => x.i == y.i | .r => x.r == y.r | .wz => x.wz == y.wz | .instr => x.instr == y.instr | .iff1 => x.iff1 == y.iff1
  | .iff2 => x.iff2 == y.iff2 | .im => x.im == y.im | .q => x.q == y.q | .halted => x.halted == y.halted

end Sys2Proof.Machine

namespace Sys2Proof

open Sys2Proof.Machine

/-- The register an `r8` operand names (R145). -/
def R8.name : R8 → RegName
  | .b => .b | .c => .c | .d => .d | .e => .e | .h => .h | .l => .l | .a => .a

/-- The index register (R141). -/
def XY.name : XY → RegName
  | .ix => .ix | .iy => .iy

/-- The register an `r8` operand names under a modifier (R146). -/
def R8X.name (r : R8X) (x : XY) : RegName :=
  match r with
  | .b => .b | .c => .c | .d => .d | .e => .e | .xh => x.name | .xl => x.name | .a => .a

/-- The registers of a pair (R147). -/
def RP.names : RP → List RegName
  | .bc => [.b, .c] | .de => [.d, .e] | .hl => [.h, .l] | .sp => [.sp]

/-- The registers of a pair of `rp2` (R147). -/
def RP2.names : RP2 → List RegName
  | .bc => [.b, .c] | .de => [.d, .e] | .hl => [.h, .l] | .af => [.a, .f]

/-! ### What an instruction may write -/

/-- The registers that the rule of an instruction lets it write, besides Q and the fetch's own changes of PC, R and `instr` (R46, and the
instruction rules). -/
def Instr.writes : Instr → List RegName
  | .nop | .ldHlN _ | .ldMemR _ | .resMem _ | .setMem _ | .nopEd7 _ | .holeX0 _ _ | .holeX3 _ _ | .holeX2LowY _ _ | .holeX2HighZ _ _ => []
  | .exAfAf => [.a, .f, .aAlt, .fAlt]
  | .djnz _ => [.b, .pc, .wz]
  | .jr _ | .jrCc _ _ | .jpCc _ _ | .jp _ => [.pc, .wz]
  | .ldRpNn p _ | .incRp p | .decRp p => p.names
  | .ldXyNn x _ | .incXy x | .ldHalfN x _ _ | .decXy x => [x.name]
  | .addHlRp _ => [.h, .l, .wz, .f]
  | .addXyRp x _ => [x.name, .wz, .f]
  | .ldPairA _ | .ldMemHl _ | .ldMemXy _ _ | .ldMemA _ | .ldIdxN _ _ _ | .ldIdxR _ _ _ | .outNA _ | .resIdx _ _ _ | .setIdx _ _ _
  | .outCR _ | .outC0 | .ldMemRp _ _ => [.wz]
  | .ldAPair _ | .ldAMem _ | .inAN _ => [.a, .wz]
  | .ldHlMem _ | .exSpHl => [.h, .l, .wz]
  | .ldXyMem x _ | .exSpXy x => [x.name, .wz]
  | .incR r | .decR r | .rlcR r | .rrcR r | .rlR r | .rrR r | .slaR r | .sraR r | .sllR r | .srlR r => [r.name, .f]
  | .incHalf x _ | .decHalf x _ => [x.name, .f]
  | .incMem | .decMem | .scf | .ccf | .cpR _ | .cpMem | .cpHalf _ _ | .cpN _ | .rlcMem | .rrcMem | .rlMem | .rrMem | .slaMem
  | .sraMem | .sllMem | .srlMem | .bitR _ _ | .bitMem _ => [.f]
  | .incIdx _ _ | .decIdx _ _ | .cpIdx _ _ | .rlcIdx _ _ | .rrcIdx _ _ | .rlIdx _ _ | .rrIdx _ _ | .slaIdx _ _ | .sraIdx _ _
  | .sllIdx _ _ | .srlIdx _ _ | .bitIdx _ _ _ _ | .inC => [.f, .wz]
  | .ldRN r _ | .ldRR r _ | .ldRMem r | .resR _ r | .setR _ r => [r.name]
  | .rlca | .rrca | .rla | .rra | .daa | .cpl | .addR _ | .addMem | .addHalf _ _ | .addN _ | .adcR _ | .adcMem | .adcHalf _ _
  | .adcN _ | .subR _ | .subMem | .subHalf _ _ | .subN _ | .sbcR _ | .sbcMem | .sbcHalf _ _ | .sbcN _ | .andR _ | .andMem
  | .andHalf _ _ | .andN _ | .xorR _ | .xorMem | .xorHalf _ _ | .xorN _ | .orR _ | .orMem | .orHalf _ _ | .orN _ | .neg _ | .ldAI
  | .ldAR => [.a, .f]
  | .ldRRXy x r _ => [r.name x]
  | .halt | .haltXy _ => [.halted]
  | .ldRIdx r _ _ | .resIdxR _ _ _ r | .setIdxR _ _ _ r => [r.name, .wz]
  | .addIdx _ _ | .adcIdx _ _ | .subIdx _ _ | .sbcIdx _ _ | .andIdx _ _ | .xorIdx _ _ | .orIdx _ _ | .rrd | .rld => [.a, .f, .wz]
  | .retCc _ | .ret | .callCc _ _ | .call _ | .rst _ => [.sp, .pc, .wz]
  | .popRr p => .sp :: p.names
  | .popXy x => [x.name, .sp]
  | .exx => [.b, .c, .d, .e, .h, .l, .bAlt, .cAlt, .dAlt, .eAlt, .hAlt, .lAlt]
  | .jpHl | .jpXy _ => [.pc]
  | .ldSpHl | .ldSpXy _ | .pushRr _ | .pushXy _ => [.sp]
  | .exDeHl => [.d, .e, .h, .l]
  | .di | .ei => [.iff1, .iff2]
  | .ignored _ i => i.writes
  | .rlcIdxR _ _ r | .rrcIdxR _ _ r | .rlIdxR _ _ r | .rrIdxR _ _ r | .slaIdxR _ _ r | .sraIdxR _ _ r | .sllIdxR _ _ r
  | .srlIdxR _ _ r | .inRC r => [r.name, .f, .wz]
  | .sbcHlRp _ | .adcHlRp _ => [.h, .l, .f, .wz]
  | .ldRpMem p _ => .wz :: p.names
  | .retn _ | .reti => [.sp, .pc, .wz, .iff1]
  | .im _ => [.im]
  | .ldIA => [.i]
  | .ldRA => [.r]
  | .ldi | .ldd => [.b, .c, .d, .e, .h, .l, .f]
  | .cpi | .cpd => [.b, .c, .h, .l, .f, .wz]
  | .ini | .outi | .ind | .outd => [.b, .h, .l, .f, .wz]
  | .ldir | .lddr => [.b, .c, .d, .e, .h, .l, .f, .pc, .wz]
  | .cpir | .cpdr => [.b, .c, .h, .l, .f, .wz, .pc]
  | .inir | .otir | .indr | .otdr => [.b, .h, .l, .f, .wz, .pc]

/-- The flag bits that the rule of an instruction writes, as a mask over F (R24, and the "Flags written" lines). -/
def Instr.flagMask : Instr → Byte
  | .nop | .djnz _ | .jr _ | .jrCc _ _ | .ldRpNn _ _ | .ldXyNn _ _ | .ldPairA _ | .ldMemHl _ | .ldMemXy _ _ | .ldMemA _ | .ldAPair _
  | .ldHlMem _ | .ldXyMem _ _ | .ldAMem _ | .incRp _ | .incXy _ | .ldRN _ _ | .ldHalfN _ _ _ | .ldHlN _ | .ldIdxN _ _ _ | .decRp _
  | .decXy _ | .ldRR _ _ | .ldRRXy _ _ _ | .halt | .haltXy _ | .ldRMem _ | .ldRIdx _ _ _ | .ldMemR _ | .ldIdxR _ _ _ | .retCc _
  | .popXy _ | .ret | .exx | .jpHl | .jpXy _ | .ldSpHl | .ldSpXy _ | .jpCc _ _ | .jp _ | .outNA _ | .inAN _ | .exSpHl | .exSpXy _
  | .exDeHl | .di | .ei | .callCc _ _ | .pushRr _ | .pushXy _ | .call _ | .rst _ | .resR _ _ | .resMem _ | .resIdx _ _ _
  | .resIdxR _ _ _ _ | .setR _ _ | .setMem _ | .setIdx _ _ _ | .setIdxR _ _ _ _ | .outCR _ | .outC0 | .ldMemRp _ _ | .ldRpMem _ _
  | .retn _ | .reti | .im _ | .ldIA | .ldRA | .nopEd7 _ | .holeX0 _ _ | .holeX3 _ _ | .holeX2LowY _ _ | .holeX2HighZ _ _ => 0
  | .exAfAf | .addR _ | .addMem | .addHalf _ _ | .addIdx _ _ | .addN _ | .adcR _ | .adcMem | .adcHalf _ _ | .adcIdx _ _ | .adcN _
  | .subR _ | .subMem | .subHalf _ _ | .subIdx _ _ | .subN _ | .sbcR _ | .sbcMem | .sbcHalf _ _ | .sbcIdx _ _ | .sbcN _ | .andR _
  | .andMem | .andHalf _ _ | .andIdx _ _ | .andN _ | .xorR _ | .xorMem | .xorHalf _ _ | .xorIdx _ _ | .xorN _ | .orR _ | .orMem
  | .orHalf _ _ | .orIdx _ _ | .orN _ | .cpR _ | .cpMem | .cpHalf _ _ | .cpIdx _ _ | .cpN _ | .rlcR _ | .rlcMem | .rlcIdx _ _
  | .rlcIdxR _ _ _ | .rrcR _ | .rrcMem | .rrcIdx _ _ | .rrcIdxR _ _ _ | .rlR _ | .rlMem | .rlIdx _ _ | .rlIdxR _ _ _ | .rrR _
  | .rrMem | .rrIdx _ _ | .rrIdxR _ _ _ | .slaR _ | .slaMem | .slaIdx _ _ | .slaIdxR _ _ _ | .sraR _ | .sraMem | .sraIdx _ _
  | .sraIdxR _ _ _ | .sllR _ | .sllMem | .sllIdx _ _ | .sllIdxR _ _ _ | .srlR _ | .srlMem | .srlIdx _ _ | .srlIdxR _ _ _
  | .sbcHlRp _ | .adcHlRp _ | .neg _ | .ini | .outi | .ind | .outd | .inir | .otir | .indr | .otdr => 0xFF
  | .addHlRp _ | .addXyRp _ _ | .rlca | .rrca | .rla | .rra | .scf | .ccf => 0x3B
  | .incR _ | .incHalf _ _ | .incMem | .incIdx _ _ | .decR _ | .decHalf _ _ | .decMem | .decIdx _ _ | .bitR _ _ | .bitMem _
  | .bitIdx _ _ _ _ | .inRC _ | .inC | .ldAI | .ldAR | .rrd | .rld | .cpi | .cpd | .cpir | .cpdr => 0xFE
  | .daa => 0xFD
  | .cpl => 0x3A
  | .popRr p => if p = .af then 0xFF else 0
  | .ignored _ i => i.flagMask
  | .ldi | .ldd | .ldir | .lddr => 0x3E

/-- The addresses that an instruction stores to, from the registers it starts with. -/
def Instr.stores (i : Instr) (g : Regs) : List Word :=
  match i with
  | .ldPairA p => [g.getBcDe p]
  | .ldMemHl nn | .ldMemXy _ nn | .ldMemRp _ nn => [nn, nn + 1]
  | .ldMemA nn => [nn]
  | .incMem | .decMem | .ldHlN _ | .ldMemR _ | .rlcMem | .rrcMem | .rlMem | .rrMem | .slaMem | .sraMem | .sllMem | .srlMem
  | .resMem _ | .setMem _ | .rrd | .rld | .ini | .ind | .inir | .indr => [g.hl]
  | .incIdx x d | .decIdx x d | .ldIdxN x d _ | .ldIdxR x d _ | .rlcIdx x d | .rlcIdxR x d _ | .rrcIdx x d | .rrcIdxR x d _
  | .rlIdx x d | .rlIdxR x d _ | .rrIdx x d | .rrIdxR x d _ | .slaIdx x d | .slaIdxR x d _ | .sraIdx x d | .sraIdxR x d _
  | .sllIdx x d | .sllIdxR x d _ | .srlIdx x d | .srlIdxR x d _ | .resIdx x d _ | .resIdxR x d _ _ | .setIdx x d _
  | .setIdxR x d _ _ => [g.ea x d]
  | .exSpHl | .exSpXy _ => [g.sp, g.sp + 1]
  | .callCc cc _ => if condHolds cc g.f then [g.sp - 1, g.sp - 2] else []
  | .pushRr _ | .pushXy _ | .call _ | .rst _ => [g.sp - 1, g.sp - 2]
  | .ignored _ i => i.stores g
  | .ldi | .ldd | .ldir | .lddr => [g.de]
  | _ => []

/-- The ports that an instruction writes to (R81). -/
def Instr.portsOut (i : Instr) (g : Regs) : List Word :=
  match i with
  | .outNA n => [mk16 g.a n]
  | .ignored _ i => i.portsOut g
  | .outCR _ | .outC0 => [g.bc]
  | .outi | .outd | .otir | .otdr => [mk16 (g.b - 1) g.c]
  | _ => []

/-- The ports that an instruction reads from (R81). -/
def Instr.portsIn (i : Instr) (g : Regs) : List Word :=
  match i with
  | .inAN n => [mk16 g.a n]
  | .ignored _ i => i.portsIn g
  | .inRC _ | .inC | .ini | .ind | .inir | .indr => [g.bc]
  | _ => []

/-- The T-states an instruction may take, as the table of R420 has them; an ignored prefix adds 4 (R152). -/
def Instr.tTotals : Instr → List Nat
  | .nop | .exAfAf | .incR _ | .decR _ | .rlca | .rrca | .rla | .rra | .daa | .cpl | .scf | .ccf | .ldRR _ _ | .halt | .addR _
  | .adcR _ | .subR _ | .sbcR _ | .andR _ | .xorR _ | .orR _ | .cpR _ | .exx | .jpHl | .exDeHl | .di | .ei => [4]
  | .djnz _ => [8, 13]
  | .jr _ | .bitMem _ | .inRC _ | .inC | .outCR _ | .outC0 => [12]
  | .jrCc _ _ => [7, 12]
  | .ldRpNn _ _ | .incXy _ | .ldHlN _ | .decXy _ | .popRr _ | .ret | .ldSpXy _ | .jpCc _ _ | .jp _ => [10]
  | .ldXyNn _ _ | .popXy _ | .retn _ | .reti => [14]
  | .addHlRp _ | .incMem | .decMem | .ldHalfN _ _ _ | .outNA _ | .inAN _ | .pushRr _ | .rst _ => [11]
  | .addXyRp _ _ | .pushXy _ | .rlcMem | .rrcMem | .rlMem | .rrMem | .slaMem | .sraMem | .sllMem | .srlMem | .resMem _ | .setMem _
  | .sbcHlRp _ | .adcHlRp _ => [15]
  | .ldPairA _ | .ldAPair _ | .ldRN _ _ | .ldRMem _ | .ldMemR _ | .addMem | .addN _ | .adcMem | .adcN _ | .subMem | .subN _
  | .sbcMem | .sbcN _ | .andMem | .andN _ | .xorMem | .xorN _ | .orMem | .orN _ | .cpMem | .cpN _ => [7]
  | .ldMemHl _ | .ldHlMem _ | .ldi | .cpi | .ini | .outi | .ldd | .cpd | .ind | .outd => [16]
  | .ldMemXy _ _ | .ldXyMem _ _ | .bitIdx _ _ _ _ | .ldMemRp _ _ | .ldRpMem _ _ => [20]
  | .ldMemA _ | .ldAMem _ => [13]
  | .incRp _ | .decRp _ | .ldSpHl => [6]
  | .incHalf _ _ | .decHalf _ _ | .ldRRXy _ _ _ | .haltXy _ | .addHalf _ _ | .adcHalf _ _ | .subHalf _ _ | .sbcHalf _ _
  | .andHalf _ _ | .xorHalf _ _ | .orHalf _ _ | .cpHalf _ _ | .jpXy _ | .rlcR _ | .rrcR _ | .rlR _ | .rrR _ | .slaR _ | .sraR _
  | .sllR _ | .srlR _ | .bitR _ _ | .resR _ _ | .setR _ _ | .neg _ | .im _ | .nopEd7 _ | .holeX0 _ _ | .holeX3 _ _ | .holeX2LowY _ _
  | .holeX2HighZ _ _ => [8]
  | .incIdx _ _ | .decIdx _ _ | .exSpXy _ | .rlcIdx _ _ | .rlcIdxR _ _ _ | .rrcIdx _ _ | .rrcIdxR _ _ _ | .rlIdx _ _ | .rlIdxR _ _ _
  | .rrIdx _ _ | .rrIdxR _ _ _ | .slaIdx _ _ | .slaIdxR _ _ _ | .sraIdx _ _ | .sraIdxR _ _ _ | .sllIdx _ _ | .sllIdxR _ _ _
  | .srlIdx _ _ | .srlIdxR _ _ _ | .resIdx _ _ _ | .resIdxR _ _ _ _ | .setIdx _ _ _ | .setIdxR _ _ _ _ => [23]
  | .ldIdxN _ _ _ | .ldRIdx _ _ _ | .ldIdxR _ _ _ | .addIdx _ _ | .adcIdx _ _ | .subIdx _ _ | .sbcIdx _ _ | .andIdx _ _
  | .xorIdx _ _ | .orIdx _ _ | .cpIdx _ _ | .exSpHl => [19]
  | .retCc _ => [5, 11]
  | .callCc _ _ => [10, 17]
  | .call _ => [17]
  | .ignored _ i => i.tTotals.map (· + 4)
  | .ldIA | .ldRA | .ldAI | .ldAR => [9]
  | .rrd | .rld => [18]
  | .ldir | .cpir | .inir | .otir | .lddr | .cpdr | .indr | .otdr => [21, 16]

end Sys2Proof

namespace Sys2Proof.Machine

/-! ### A register transform with its bus cycles -/

/-- The bus cycles that read or write a port. -/
def BusEvent.isIo : BusEvent → Bool
  | .ioRead _ _ => true | .ioWrite _ _ => true | .fetch _ _ _ => false | .memRead _ _ => false | .memWrite _ _ => false
  | .intAck _ _ _ => false | .filler _ => false

/-- What one bus cycle does to everything but the registers: a read takes its byte from the bus, a write reaches memory or the port, and the cycle
is recorded (R11, R125). -/
def State.busCycle (s : State) (e : BusEvent) : State :=
  match e with
  | .fetch a _ _ => (s.busTaken .mem a).record e
  | .memRead a _ => (s.busTaken .mem a).record e
  | .memWrite a v => s.writeMem a v
  | .ioRead p _ => (s.busTaken .io p).record e
  | .ioWrite p v => s.writePort p v
  | .intAck a _ _ => (s.busTaken .inta a).record e
  | .filler n => s.fill n

/-- The bus cycles `ev`, in order. -/
def State.onBus (s : State) (ev : List BusEvent) : State := ev.foldl State.busCycle s

/-- "An instruction's observable behaviour is its event list plus its register transform" (R125): the meaning of `i` completes from `s` with the
registers `r`, after exactly the bus cycles `ev`, in that order; all else is as before, but that an indexed form leaves the decoder state as its
address computation does (R154). -/
def Runs (i : Instr) (s : State) (r : Regs) (ev : List BusEvent) : Prop :=
  ∃ d, (d = s.dec ∨ d = s.dec.eaComputed) ∧ exec i s = .next { s.onBus ev with regs := r, dec := d }

/-- A register file at the end of an instruction that writes no flags: Q is 0 (R35). -/
def Regs.plain (r : Regs) : Regs := { r with q := 0 }

/-- A register file at the end of an instruction that writes the flags `f`: F and Q take them (R35). -/
def Regs.flagged (r : Regs) (f : Flags) : Regs := { r with f := f.toByte, q := f.toByte }

/-- The flags of a register file. -/
def Regs.flags (r : Regs) : Flags := Flags.ofByte r.f

/-- The 16-bit value that two memory reads from `a` give, the low byte first (R83). -/
def State.word (s : State) (a : Word) : Word := mk16 ((s.afterRead a).busByte .mem (a + 1)) (s.busByte .mem a)

/-- The cycles of a 16-bit memory read (R11). -/
def State.wordCycles (s : State) (a : Word) : List BusEvent :=
  [.memRead a (s.busByte .mem a), .memRead (a + 1) ((s.afterRead a).busByte .mem (a + 1))]

/-- The cycles of a push (R83). -/
def pushCycles (sp v : Word) : List BusEvent := [.memWrite (sp - 1) (hi8 v), .memWrite (sp - 2) (lo8 v)]

/-- The five operand forms of an 8-bit ALU operation (R245 to R252). -/
structure AluForms where
  reg : R8 → Instr
  mem : Instr
  half : XY → Half → Instr
  idx : XY → Byte → Instr
  imm : Byte → Instr

/-- The instructions of each ALU operation. -/
def aluForms : AluOp → AluForms
  | .add => ⟨.addR, .addMem, .addHalf, .addIdx, .addN⟩
  | .adc => ⟨.adcR, .adcMem, .adcHalf, .adcIdx, .adcN⟩
  | .sub => ⟨.subR, .subMem, .subHalf, .subIdx, .subN⟩
  | .sbc => ⟨.sbcR, .sbcMem, .sbcHalf, .sbcIdx, .sbcN⟩
  | .and => ⟨.andR, .andMem, .andHalf, .andIdx, .andN⟩
  | .xor => ⟨.xorR, .xorMem, .xorHalf, .xorIdx, .xorN⟩
  | .or => ⟨.orR, .orMem, .orHalf, .orIdx, .orN⟩
  | .cp => ⟨.cpR, .cpMem, .cpHalf, .cpIdx, .cpN⟩

/-- The four operand forms of a CB operation (R300 to R311). -/
structure CbForms where
  reg : R8 → Instr
  mem : Instr
  idx : XY → Byte → Instr
  idxReg : XY → Byte → R8 → Instr

/-- The instructions of each rotate and shift. -/
def rotForms : RotOp → CbForms
  | .rlc => ⟨.rlcR, .rlcMem, .rlcIdx, .rlcIdxR⟩
  | .rrc => ⟨.rrcR, .rrcMem, .rrcIdx, .rrcIdxR⟩
  | .rl => ⟨.rlR, .rlMem, .rlIdx, .rlIdxR⟩
  | .rr => ⟨.rrR, .rrMem, .rrIdx, .rrIdxR⟩
  | .sla => ⟨.slaR, .slaMem, .slaIdx, .slaIdxR⟩
  | .sra => ⟨.sraR, .sraMem, .sraIdx, .sraIdxR⟩
  | .sll => ⟨.sllR, .sllMem, .sllIdx, .sllIdxR⟩
  | .srl => ⟨.srlR, .srlMem, .srlIdx, .srlIdxR⟩

/-! ### Results and flags as the spec's tables have them, apart from Machine/Flags.lean -/

/-- An even number of 1 bits (R170), by counting them. -/
def evenOnes (v : Byte) : Bool := (List.range 8).countP (fun k => v.getLsbD k) % 2 == 0

/-- S, Z, F5 and F3 from a result, and the other four flags (R170). -/
def flagsFrom (r : Byte) (h pv n c : Bool) : Flags where
  s := r.getLsbD 7
  z := r == 0
  y := r.getLsbD 5
  h := h
  x := r.getLsbD 3
  pv := pv
  n := n
  c := c

/-- The rotated or shifted byte of each operation, as arithmetic on the whole byte (R182). -/
def shifted (op : RotOp) (v : Byte) (carry : Bool) : Byte :=
  match op with
  | .rlc => v.rotateLeft 1
  | .rrc => v.rotateRight 1
  | .rl => (v <<< 1) ||| (if carry then 1 else 0)
  | .rr => (v >>> 1) ||| (if carry then 0x80 else 0)
  | .sla => v <<< 1
  | .sra => v.sshiftRight 1
  | .sll => (v <<< 1) ||| 1
  | .srl => v >>> 1

/-- The bit that each operation shifts out (R182). -/
def shiftedOut (op : RotOp) (v : Byte) : Bool :=
  match op with
  | .rlc | .rl | .sla | .sll => v.msb
  | .rrc | .rr | .sra | .srl => v.getLsbD 0

/-- Run an instruction again and again from the address of its two-byte encoding: the fetch moves PC by two (R26, R350). -/
def blockRun (i : Instr) : Nat → State → Option State
  | 0, s => some s
  | n + 1, s => match exec i (s.setPc (s.regs.pc + 2)) with
    | .next t => blockRun i n t
    | .fault _ => none
    | .refused _ => none

/-- The packed decimal byte of a number below 100. -/
def bcd (n : Nat) : Byte := BitVec.ofNat 8 (16 * (n / 10) + n % 10)

/-- An instruction with the prefixes that have no effect taken off (R152, R238). -/
def behindPrefixes : Instr → Instr
  | .ignored _ i => behindPrefixes i
  | i => i

/-- Drive the cycle `c` by `n` half-edges of steady inputs, rising and falling in turn, and say whether and when it ends (R104). -/
def edges (rising : Bool) : Nat → State → Cycle → Option (Nat × State)
  | 0, _, _ => none
  | n + 1, s, c => match (if rising then s.rise c else s.fall c) with
    | .finished t _ => some (1, t)
    | .going t => match t.cycle with
      | some c2 => (edges (!rising) n t c2).map fun r => (r.1 + 1, r.2)
      | none => none
    | .violation => none

/-- The pins after each of `n` half-edges of the cycle `c`, with steady inputs, rising and falling in turn (R93). -/
def waves (rising : Bool) : Nat → State → Cycle → List PinBus
  | 0, _, _ => []
  | n + 1, s, c => match (if rising then s.rise c else s.fall c) with
    | .finished t _ => [t.pins]
    | .going t => match t.cycle with
      | some c2 => t.pins :: waves (!rising) n t c2
      | none => [t.pins]
    | .violation => []

/-- The strobes that are active (low), in the order M1, MREQ, IORQ, RD, WR, RFSH. -/
def PinBus.strobes (p : PinBus) : List PinName :=
  [PinName.m1, .mreq, .iorq, .rd, .wr, .rfsh].filter fun n => !p.level.get n

end Sys2Proof.Machine
end

