-- ==== Sys2Proof/Certificates/Slice0/Obligations.lean ====
section
/-! DEFINITION. The statements for the provers. Each docstring says which rule of the spec the statement formalises. -/

open Sys2Proof Sys2Proof.Machine

/-! ### Results, one statement per family: the registers after, and the bus cycles in order (R125) -/

/-- NOP, the ED no-ops and the holes (R200, R340), HALT (R241), DI (R275), IM (R329), and EI, which sets both flip-flops and `skip_int` (R276,
R376): no bus cycle beyond the fetch, no flag. -/
def Obligations.SimpleInstructionsComplete : Prop :=
  ∀ (s : State) (x : XY) (y z : BitVec 3) (y2 z2 : BitVec 2) (y0 : BitVec 1),
    Runs .nop s s.regs.plain [] ∧ Runs (.nopEd7 y0) s s.regs.plain [] ∧ Runs (.holeX0 y z) s s.regs.plain [] ∧
    Runs (.holeX3 y z) s s.regs.plain [] ∧ Runs (.holeX2LowY y2 z2) s s.regs.plain [] ∧ Runs (.holeX2HighZ y z2) s s.regs.plain [] ∧
    Runs .halt s { s.regs.plain with halted := true } [] ∧ Runs (.haltXy x) s { s.regs.plain with halted := true } [] ∧
    Runs .di s { s.regs.plain with iff1 := false, iff2 := false } [] ∧
    Runs (.im 0) s { s.regs.plain with im := .im0 } [] ∧ Runs (.im 1) s { s.regs.plain with im := .im0 } [] ∧
    Runs (.im 2) s { s.regs.plain with im := .im1 } [] ∧ Runs (.im 3) s { s.regs.plain with im := .im2 } [] ∧
    Runs (.im 4) s { s.regs.plain with im := .im0 } [] ∧ Runs (.im 5) s { s.regs.plain with im := .im0 } [] ∧
    Runs (.im 6) s { s.regs.plain with im := .im1 } [] ∧ Runs (.im 7) s { s.regs.plain with im := .im2 } [] ∧
    exec .ei s = .next { s with regs := { s.regs.plain with iff1 := true, iff2 := true }, skipInt := true }

/-- The loads between registers and of immediates, LD SP,HL and LD SP,XY with their F(2), and the loads of and from I and R with their F(1) and, in
LD A,I and LD A,R, P/V = IFF2 (R205, R218, R240, R268, R331, R332, R333, R337). -/
def Obligations.RegisterLoadsComplete : Prop :=
  ∀ (s : State) (x : XY) (r r2 : R8) (k k2 : R8X) (hf : Half) (p : RP) (n : Byte) (nn : Word),
    let flags := fun (v : Byte) => { s.regs.flags with
      s := v.getLsbD 7, z := v == 0, y := v.getLsbD 5, h := false, x := v.getLsbD 3, pv := s.regs.iff2, n := false }
    Runs (.ldRR r r2) s (s.regs.setR8 r (s.regs.getR8 r2)).plain [] ∧
    Runs (.ldRRXy x k k2) s (s.regs.setR8X x k (s.regs.getR8X x k2)).plain [] ∧
    Runs (.ldRN r n) s (s.regs.setR8 r n).plain [] ∧
    Runs (.ldHalfN x hf n) s (s.regs.setHalf x hf n).plain [] ∧
    Runs (.ldRpNn p nn) s (s.regs.setRp p nn).plain [] ∧
    Runs (.ldXyNn x nn) s (s.regs.setXy x nn).plain [] ∧
    Runs .ldSpHl s { s.regs.plain with sp := s.regs.hl } [.filler 2] ∧
    Runs (.ldSpXy x) s { s.regs.plain with sp := s.regs.getXy x } [.filler 2] ∧
    Runs .ldIA s { s.regs.plain with i := s.regs.a } [.filler 1] ∧
    Runs .ldRA s { s.regs.plain with r := s.regs.a } [.filler 1] ∧
    Runs .ldAI s ({ s.regs with a := s.regs.i }.flagged (flags s.regs.i)) [.filler 1] ∧
    Runs .ldAR s ({ s.regs with a := s.regs.r }.flagged (flags s.regs.r)) [.filler 1]

/-- The loads from memory: the byte or word that the bus gives, and WZ (R210, R211, R212, R242, R327). -/
def Obligations.MemoryLoadsComplete : Prop :=
  ∀ (s : State) (x : XY) (r : R8) (d : Byte) (q : BcDe) (p : RP) (nn : Word),
    Runs (.ldRMem r) s (s.regs.setR8 r (s.busByte .mem s.regs.hl)).plain [.memRead s.regs.hl (s.busByte .mem s.regs.hl)] ∧
    Runs (.ldRIdx r x d) s ({ s.regs with wz := s.regs.ea x d }.setR8 r (s.busByte .mem (s.regs.ea x d))).plain
      [.filler 5, .memRead (s.regs.ea x d) (s.busByte .mem (s.regs.ea x d))] ∧
    Runs (.ldAPair q) s { s.regs.plain with a := s.busByte .mem (s.regs.getBcDe q), wz := s.regs.getBcDe q + 1 }
      [.memRead (s.regs.getBcDe q) (s.busByte .mem (s.regs.getBcDe q))] ∧
    Runs (.ldAMem nn) s { s.regs.plain with a := s.busByte .mem nn, wz := nn + 1 } [.memRead nn (s.busByte .mem nn)] ∧
    Runs (.ldHlMem nn) s { (s.regs.setHl (s.word nn)).plain with wz := nn + 1 } (s.wordCycles nn) ∧
    Runs (.ldXyMem x nn) s { (s.regs.setXy x (s.word nn)).plain with wz := nn + 1 } (s.wordCycles nn) ∧
    Runs (.ldRpMem p nn) s { (s.regs.setRp p (s.word nn)).plain with wz := nn + 1 } (s.wordCycles nn)

/-- The stores: the address, the byte or the two bytes with the low one first, and WZ (R207, R208, R209, R219, R243, R326). -/
def Obligations.MemoryStoresComplete : Prop :=
  ∀ (s : State) (x : XY) (r : R8) (d n : Byte) (q : BcDe) (p : RP) (nn : Word),
    Runs (.ldMemR r) s s.regs.plain [.memWrite s.regs.hl (s.regs.getR8 r)] ∧
    Runs (.ldIdxR x d r) s { s.regs.plain with wz := s.regs.ea x d } [.filler 5, .memWrite (s.regs.ea x d) (s.regs.getR8 r)] ∧
    Runs (.ldHlN n) s s.regs.plain [.memWrite s.regs.hl n] ∧
    Runs (.ldIdxN x d n) s { s.regs.plain with wz := s.regs.ea x d } [.filler 2, .memWrite (s.regs.ea x d) n] ∧
    Runs (.ldPairA q) s { s.regs.plain with wz := mk16 s.regs.a (lo8 (s.regs.getBcDe q) + 1) }
      [.memWrite (s.regs.getBcDe q) s.regs.a] ∧
    Runs (.ldMemA nn) s { s.regs.plain with wz := mk16 s.regs.a (lo8 nn + 1) } [.memWrite nn s.regs.a] ∧
    Runs (.ldMemHl nn) s { s.regs.plain with wz := nn + 1 } [.memWrite nn s.regs.l, .memWrite (nn + 1) s.regs.h] ∧
    Runs (.ldMemXy x nn) s { s.regs.plain with wz := nn + 1 }
      [.memWrite nn (lo8 (s.regs.getXy x)), .memWrite (nn + 1) (hi8 (s.regs.getXy x))] ∧
    Runs (.ldMemRp p nn) s { s.regs.plain with wz := nn + 1 }
      [.memWrite nn (lo8 (s.regs.getRp p)), .memWrite (nn + 1) (hi8 (s.regs.getRp p))]

/-- The exchanges (R201, R266, R273, R274). -/
def Obligations.ExchangesComplete : Prop :=
  ∀ (s : State) (x : XY),
    Runs .exAfAf s { s.regs.plain with a := s.regs.aAlt, f := s.regs.fAlt, aAlt := s.regs.a, fAlt := s.regs.f } [] ∧
    Runs .exx s
      { s.regs.plain with
        b := s.regs.bAlt, c := s.regs.cAlt, d := s.regs.dAlt, e := s.regs.eAlt, h := s.regs.hAlt, l := s.regs.lAlt,
        bAlt := s.regs.b, cAlt := s.regs.c, dAlt := s.regs.d, eAlt := s.regs.e, hAlt := s.regs.h, lAlt := s.regs.l } [] ∧
    Runs .exDeHl s { s.regs.plain with d := s.regs.h, e := s.regs.l, h := s.regs.d, l := s.regs.e } [] ∧
    Runs .exSpHl s { (s.regs.setHl (s.word s.regs.sp)).plain with wz := s.word s.regs.sp }
      (s.wordCycles s.regs.sp ++
        [.filler 1, .memWrite (s.regs.sp + 1) s.regs.h, .memWrite s.regs.sp s.regs.l, .filler 2]) ∧
    Runs (.exSpXy x) s { (s.regs.setXy x (s.word s.regs.sp)).plain with wz := s.word s.regs.sp }
      (s.wordCycles s.regs.sp ++
        [.filler 1, .memWrite (s.regs.sp + 1) (hi8 (s.regs.getXy x)), .memWrite s.regs.sp (lo8 (s.regs.getXy x)), .filler 2])

/-- PUSH and POP (R261, R278): the high byte goes to SP-1 and then the low byte to SP-2. -/
def Obligations.StackMovesComplete : Prop :=
  ∀ (s : State) (x : XY) (p : RP2),
    Runs (.pushRr p) s { s.regs.plain with sp := s.regs.sp - 2 } (.filler 1 :: pushCycles s.regs.sp (s.regs.getRp2 p)) ∧
    Runs (.pushXy x) s { s.regs.plain with sp := s.regs.sp - 2 } (.filler 1 :: pushCycles s.regs.sp (s.regs.getXy x)) ∧
    Runs (.popRr p) s ({ s.regs with sp := s.regs.sp + 2 }.setRp2 p (s.word s.regs.sp)).plain (s.wordCycles s.regs.sp) ∧
    Runs (.popXy x) s ({ s.regs with sp := s.regs.sp + 2 }.setXy x (s.word s.regs.sp)).plain (s.wordCycles s.regs.sp)

/-- The jumps, taken and not taken (R202, R203, R204, R267, R269, R270). -/
def Obligations.JumpsComplete : Prop :=
  ∀ (s : State) (x : XY) (e : Byte) (cc : Cond) (jc : JrCond) (nn : Word),
    let rel := { s.regs.plain with pc := s.regs.pc + sext16 e, wz := s.regs.pc + sext16 e }
    Runs (.jr e) s rel [.filler 5] ∧
    (condHolds (jrCondition jc) s.regs.f = true → Runs (.jrCc jc e) s rel [.filler 5]) ∧
    (condHolds (jrCondition jc) s.regs.f = false → Runs (.jrCc jc e) s s.regs.plain []) ∧
    (s.regs.b - 1 ≠ 0 → Runs (.djnz e) s { rel with b := s.regs.b - 1 } [.filler 5]) ∧
    (s.regs.b - 1 = 0 → Runs (.djnz e) s { s.regs.plain with b := 0 } []) ∧
    Runs (.jp nn) s { s.regs.plain with pc := nn, wz := nn } [] ∧
    (condHolds cc s.regs.f = true → Runs (.jpCc cc nn) s { s.regs.plain with pc := nn, wz := nn } []) ∧
    (condHolds cc s.regs.f = false → Runs (.jpCc cc nn) s { s.regs.plain with wz := nn } []) ∧
    Runs .jpHl s { s.regs.plain with pc := s.regs.hl } [] ∧
    Runs (.jpXy x) s { s.regs.plain with pc := s.regs.getXy x } []

/-- The calls and returns, taken and not taken, and RETN and RETI with IFF1 = IFF2 (R260, R262, R277, R279, R280, R328, R336). -/
def Obligations.CallsAndReturnsComplete : Prop :=
  ∀ (s : State) (cc : Cond) (nn : Word) (y : BitVec 3),
    let down := { s.regs.plain with sp := s.regs.sp - 2 }
    let saved := BusEvent.filler 1 :: pushCycles s.regs.sp s.regs.pc
    let back := { s.regs.plain with sp := s.regs.sp + 2, pc := s.word s.regs.sp, wz := s.word s.regs.sp }
    Runs (.call nn) s { down with pc := nn, wz := nn } saved ∧
    (condHolds cc s.regs.f = true → Runs (.callCc cc nn) s { down with pc := nn, wz := nn } saved) ∧
    (condHolds cc s.regs.f = false → Runs (.callCc cc nn) s { s.regs.plain with wz := nn } []) ∧
    Runs (.rst y) s { down with pc := BitVec.ofNat 16 (8 * y.toNat), wz := BitVec.ofNat 16 (8 * y.toNat) } saved ∧
    Runs .ret s back (s.wordCycles s.regs.sp) ∧
    (condHolds cc s.regs.f = true → Runs (.retCc cc) s back (.filler 1 :: s.wordCycles s.regs.sp)) ∧
    (condHolds cc s.regs.f = false → Runs (.retCc cc) s s.regs.plain [.filler 1]) ∧
    Runs (.retn y) s { back with iff1 := s.regs.iff2 } (s.wordCycles s.regs.sp) ∧
    Runs .reti s { back with iff1 := s.regs.iff2 } (s.wordCycles s.regs.sp)

/-- The 8-bit ALU in its five operand forms (R171, R245 to R252): A and the flags are those of `alu8`. -/
def Obligations.AluOperationsComplete : Prop :=
  ∀ (s : State) (op : AluOp) (r : R8) (x : XY) (hf : Half) (d n : Byte),
    let result := fun (g : Regs) (b : Byte) => { g with a := (alu8 op s.regs.a b (flagC s.regs.f)).1 }.flagged (alu8 op s.regs.a b (flagC s.regs.f)).2
    let ea := s.regs.ea x d
    Runs ((aluForms op).reg r) s (result s.regs (s.regs.getR8 r)) [] ∧
    Runs (aluForms op).mem s (result s.regs (s.busByte .mem s.regs.hl)) [.memRead s.regs.hl (s.busByte .mem s.regs.hl)] ∧
    Runs ((aluForms op).half x hf) s (result s.regs (s.regs.getHalf x hf)) [] ∧
    Runs ((aluForms op).idx x d) s (result { s.regs with wz := ea } (s.busByte .mem ea)) [.filler 5, .memRead ea (s.busByte .mem ea)] ∧
    Runs ((aluForms op).imm n) s (result s.regs n) []

/-- INC and DEC of bytes and of words (R213 to R217, R220). A byte form takes S, Z, F5 and F3 from the result, H from the low digit, P/V from the one
value that overflows (7F for INC, 80 for DEC), N = 0 for INC and 1 for DEC, and leaves C (R181); a word form writes no flag. -/
def Obligations.IncrementsComplete : Prop :=
  ∀ (s : State) (r : R8) (x : XY) (hf : Half) (d : Byte) (p : RP),
    let v := s.busByte .mem s.regs.hl
    let ea := s.regs.ea x d
    let w := s.busByte .mem ea
    let up := fun (u : Byte) => flagsFrom (u + 1) (u &&& 0x0F == 0x0F) (u == 0x7F) false (flagC s.regs.f)
    let down := fun (u : Byte) => flagsFrom (u - 1) (u &&& 0x0F == 0) (u == 0x80) true (flagC s.regs.f)
    Runs (.incR r) s ((s.regs.setR8 r (s.regs.getR8 r + 1)).flagged (up (s.regs.getR8 r))) [] ∧
    Runs (.decR r) s ((s.regs.setR8 r (s.regs.getR8 r - 1)).flagged (down (s.regs.getR8 r))) [] ∧
    Runs (.incHalf x hf) s ((s.regs.setHalf x hf (s.regs.getHalf x hf + 1)).flagged (up (s.regs.getHalf x hf))) [] ∧
    Runs (.decHalf x hf) s ((s.regs.setHalf x hf (s.regs.getHalf x hf - 1)).flagged (down (s.regs.getHalf x hf))) [] ∧
    Runs .incMem s (s.regs.flagged (up v)) [.memRead s.regs.hl v, .filler 1, .memWrite s.regs.hl (v + 1)] ∧
    Runs .decMem s (s.regs.flagged (down v)) [.memRead s.regs.hl v, .filler 1, .memWrite s.regs.hl (v - 1)] ∧
    Runs (.incIdx x d) s ({ s.regs with wz := ea }.flagged (up w))
      [.filler 5, .memRead ea w, .filler 1, .memWrite ea (w + 1)] ∧
    Runs (.decIdx x d) s ({ s.regs with wz := ea }.flagged (down w))
      [.filler 5, .memRead ea w, .filler 1, .memWrite ea (w - 1)] ∧
    Runs (.incRp p) s (s.regs.setRp p (s.regs.getRp p + 1)).plain [.filler 2] ∧
    Runs (.decRp p) s (s.regs.setRp p (s.regs.getRp p - 1)).plain [.filler 2] ∧
    Runs (.incXy x) s (s.regs.setXy x (s.regs.getXy x + 1)).plain [.filler 2] ∧
    Runs (.decXy x) s (s.regs.setXy x (s.regs.getXy x - 1)).plain [.filler 2]

/-- The 16-bit additions and subtractions, with F(7) and WZ = the old first operand plus one (R206, R324, R325). -/
def Obligations.WordArithmeticCompletes : Prop :=
  ∀ (s : State) (x : XY) (p : RP),
    let hl := s.regs.hl
    let xy := s.regs.getXy x
    let rp := s.regs.getRp p
    let rpx := s.regs.getRpXy x p
    let cin := flagC s.regs.f
    Runs (.addHlRp p) s ({ s.regs.setHl (hl + rp) with wz := hl + 1 }.flagged (add16 hl rp s.regs.flags).2) [.filler 7] ∧
    Runs (.addXyRp x p) s ({ s.regs.setXy x (xy + rpx) with wz := xy + 1 }.flagged (add16 xy rpx s.regs.flags).2) [.filler 7] ∧
    Runs (.adcHlRp p) s ({ s.regs.setHl (hl + rp + BitVec.ofNat 16 (bit01 cin)) with wz := hl + 1 }.flagged (adc16 hl rp cin).2) [.filler 7] ∧
    Runs (.sbcHlRp p) s ({ s.regs.setHl (hl - rp - BitVec.ofNat 16 (bit01 cin)) with wz := hl + 1 }.flagged (sbc16 hl rp cin).2) [.filler 7]

/-- The operations on A and F alone, and RRD and RLD, which rotate the three digits and leave the high digit of A (R229 to R236, R330, R334,
R335), with every flag: the accumulator rotates leave S, Z and P/V (R183), DAA follows the steps of R187, CPL, SCF and CCF leave S, Z and
P/V, and RRD and RLD leave C. -/
def Obligations.AccumulatorOperationsComplete : Prop :=
  ∀ (s : State) (y : BitVec 3),
    let a := s.regs.a
    let f := s.regs.flags
    let hl := s.regs.hl
    let m := s.busByte .mem hl
    let right := (a &&& 0xF0) ||| (m &&& 0x0F)
    let left := (a &&& 0xF0) ||| (m >>> 4)
    let rotated := fun (op : RotOp) =>
      let r := shifted op a f.c
      { s.regs with a := r }.flagged { f with y := r.getLsbD 5, h := false, x := r.getLsbD 3, n := false, c := shiftedOut op a }
    let carried := f.c || decide (0x99 < a.toNat)
    let adjust : Byte := (if f.h || decide (9 < a.toNat % 16) then 0x06 else 0) ||| (if carried then 0x60 else 0)
    let decimal := if f.n then a - adjust else a + adjust
    let halfCarried := if f.n then f.h && decide (a.toNat % 16 < 6) else decide (9 < a.toNat % 16)
    let source := (s.regs.q ^^^ s.regs.f) ||| a
    Runs .rlca s (rotated .rlc) [] ∧ Runs .rrca s (rotated .rrc) [] ∧ Runs .rla s (rotated .rl) [] ∧ Runs .rra s (rotated .rr) [] ∧
    Runs .daa s ({ s.regs with a := decimal }.flagged (flagsFrom decimal halfCarried (evenOnes decimal) f.n carried)) [] ∧
    Runs .cpl s ({ s.regs with a := ~~~a }.flagged { f with y := !a.getLsbD 5, h := true, x := !a.getLsbD 3, n := true }) [] ∧
    Runs .scf s (s.regs.flagged { f with y := source.getLsbD 5, h := false, x := source.getLsbD 3, n := false, c := true }) [] ∧
    Runs .ccf s (s.regs.flagged { f with y := source.getLsbD 5, h := f.c, x := source.getLsbD 3, n := false, c := !f.c }) [] ∧
    Runs (.neg y) s ({ s.regs with a := -a }.flagged (flagsFrom (-a) (a &&& 0x0F != 0) (a == 0x80) true (a != 0))) [] ∧
    Runs .rrd s ({ s.regs with a := right, wz := hl + 1 }.flagged (flagsFrom right false (evenOnes right) false f.c))
      [.memRead hl m, .filler 4, .memWrite hl ((a <<< 4) ||| (m >>> 4))] ∧
    Runs .rld s ({ s.regs with a := left, wz := hl + 1 }.flagged (flagsFrom left false (evenOnes left) false f.c))
      [.memRead hl m, .filler 4, .memWrite hl ((m <<< 4) ||| (a &&& 0x0F))]

/-- The eight rotates and shifts in their four operand forms (R182, R300 to R307, R311): the shifted byte goes to the register or to memory, and in
the copy forms to both; C is the bit shifted out, S, Z, F5 and F3 are the result's, P/V is even parity, H and N are 0. -/
def Obligations.RotatesAndShiftsComplete : Prop :=
  ∀ (s : State) (op : RotOp) (r : R8) (x : XY) (d : Byte),
    let hl := s.regs.hl
    let v := s.busByte .mem hl
    let ea := s.regs.ea x d
    let w := s.busByte .mem ea
    let res := fun (u : Byte) => shifted op u (flagC s.regs.f)
    let flags := fun (u : Byte) => flagsFrom (res u) false (evenOnes (res u)) false (shiftedOut op u)
    let cycles := [BusEvent.filler 2, .memRead ea w, .filler 1, .memWrite ea (res w)]
    Runs ((rotForms op).reg r) s ((s.regs.setR8 r (res (s.regs.getR8 r))).flagged (flags (s.regs.getR8 r))) [] ∧
    Runs (rotForms op).mem s (s.regs.flagged (flags v)) [.memRead hl v, .filler 1, .memWrite hl (res v)] ∧
    Runs ((rotForms op).idx x d) s ({ s.regs with wz := ea }.flagged (flags w)) cycles ∧
    Runs ((rotForms op).idxReg x d r) s (({ s.regs with wz := ea }.setR8 r (res w)).flagged (flags w)) cycles

/-- BIT, RES and SET in every operand form (R308 to R312). BIT: Z = P/V = the tested bit complemented, S = the tested bit when it is bit 7, H = 1,
N = 0, C kept, and F5 and F3 from the register, from W, or from the high byte of the address; RES and SET write no flag. -/
def Obligations.BitOperationsComplete : Prop :=
  ∀ (s : State) (b z : BitVec 3) (r : R8) (x : XY) (d : Byte),
    let f := s.regs.flags
    let hl := s.regs.hl
    let v := s.busByte .mem hl
    let ea := s.regs.ea x d
    let w := s.busByte .mem ea
    let res := fun (u : Byte) => u &&& ~~~((1 : Byte) <<< b.toNat)
    let set := fun (u : Byte) => u ||| ((1 : Byte) <<< b.toNat)
    let tested := fun (u src : Byte) =>
      let t := u.getLsbD b.toNat
      { f with s := t && b == 7, z := !t, y := src.getLsbD 5, h := true, x := src.getLsbD 3, pv := !t, n := false }
    let at_ea := { s.regs with wz := ea }
    let cycles := fun (u : Byte) => [BusEvent.filler 2, .memRead ea w, .filler 1, .memWrite ea u]
    Runs (.bitR b r) s (s.regs.flagged (tested (s.regs.getR8 r) (s.regs.getR8 r))) [] ∧
    Runs (.bitMem b) s (s.regs.flagged (tested v (hi8 s.regs.wz))) [.memRead hl v, .filler 1] ∧
    Runs (.bitIdx x d b z) s (at_ea.flagged (tested w (hi8 ea))) [.filler 2, .memRead ea w, .filler 1] ∧
    Runs (.resR b r) s (s.regs.setR8 r (res (s.regs.getR8 r))).plain [] ∧
    Runs (.resMem b) s s.regs.plain [.memRead hl v, .filler 1, .memWrite hl (res v)] ∧
    Runs (.resIdx x d b) s at_ea.plain (cycles (res w)) ∧
    Runs (.resIdxR x d b r) s (at_ea.setR8 r (res w)).plain (cycles (res w)) ∧
    Runs (.setR b r) s (s.regs.setR8 r (set (s.regs.getR8 r))).plain [] ∧
    Runs (.setMem b) s s.regs.plain [.memRead hl v, .filler 1, .memWrite hl (set v)] ∧
    Runs (.setIdx x d b) s at_ea.plain (cycles (set w)) ∧
    Runs (.setIdxR x d b r) s (at_ea.setR8 r (set w)).plain (cycles (set w))

/-- The single-byte port instructions: the port on all 16 address lines, the byte and WZ (R271, R272, R320 to R323). IN r,(C) and IN (C) take S, Z, F5,
F3 and even parity from the byte, H = N = 0 and C kept (R320); the other four write no flag. -/
def Obligations.PortInstructionsComplete : Prop :=
  ∀ (s : State) (r : R8) (n : Byte),
    let bc := s.regs.bc
    let v := s.busByte .io bc
    let an := mk16 s.regs.a n
    let flags := flagsFrom v false (evenOnes v) false (flagC s.regs.f)
    Runs (.outNA n) s { s.regs.plain with wz := mk16 s.regs.a (n + 1) } [.ioWrite an s.regs.a] ∧
    Runs (.inAN n) s { s.regs.plain with a := s.busByte .io an, wz := an + 1 } [.ioRead an (s.busByte .io an)] ∧
    Runs (.inRC r) s ({ s.regs.setR8 r v with wz := bc + 1 }.flagged flags) [.ioRead bc v] ∧
    Runs .inC s ({ s.regs with wz := bc + 1 }.flagged flags) [.ioRead bc v] ∧
    Runs (.outCR r) s { s.regs.plain with wz := bc + 1 } [.ioWrite bc (s.regs.getR8 r)] ∧
    Runs .outC0 s { s.regs.plain with wz := bc + 1 } [.ioWrite bc 0]

/-- The block loads and compares: one iteration, with the repeat's F(5), PC - 2 and WZ (R350 to R358). P/V = (BC ≠ 0) after the decrement. A load
takes F5 and F3 from bits 1 and 3 of `v + A`, H = N = 0, and leaves S, Z and C (R351); a compare takes S and Z from `r = A - v`, H from the
borrow of the low digit, F5 and F3 from bits 1 and 3 of `r - H`, N = 1, and leaves C (R355). -/
def Obligations.BlockLoadsAndComparesComplete : Prop :=
  ∀ s : State,
    let g := s.regs
    let v := s.busByte .mem g.hl
    let bc := g.bc - 1
    let sum := v + g.a
    let r := g.a - v
    let borrow := decide (g.a.toNat % 16 < v.toNat % 16)
    let adjusted := if borrow then r - 1 else r
    let copied := { g.flags with y := sum.getLsbD 1, h := false, x := sum.getLsbD 3, pv := bc != 0, n := false }
    let compared := { g.flags with
      s := r.msb, z := r == 0, y := adjusted.getLsbD 1, h := borrow, x := adjusted.getLsbD 3, pv := bc != 0, n := true }
    let moved := fun (w : Word) => (((g.setHl (g.hl + w)).setDe (g.de + w)).setBc bc).flagged copied
    let seen := fun (w : Word) => { (g.setHl (g.hl + w)).setBc bc with wz := g.wz + w }.flagged compared
    let again := fun (r : Regs) => { r with pc := g.pc - 2, wz := g.pc - 1 }
    let copy := [BusEvent.memRead g.hl v, .memWrite g.de v, .filler 2]
    let look := [BusEvent.memRead g.hl v, .filler 5]
    Runs .ldi s (moved 1) copy ∧ Runs .ldd s (moved (-1)) copy ∧
    Runs .cpi s (seen 1) look ∧ Runs .cpd s (seen (-1)) look ∧
    (bc = 0 → Runs .ldir s (moved 1) copy ∧ Runs .lddr s (moved (-1)) copy) ∧
    (bc ≠ 0 → Runs .ldir s (again (moved 1)) (copy ++ [.filler 5]) ∧ Runs .lddr s (again (moved (-1))) (copy ++ [.filler 5])) ∧
    (bc = 0 ∨ g.a = v → Runs .cpir s (seen 1) look ∧ Runs .cpdr s (seen (-1)) look) ∧
    (bc ≠ 0 ∧ g.a ≠ v → Runs .cpir s (again (seen 1)) (look ++ [.filler 5]) ∧ Runs .cpdr s (again (seen (-1))) (look ++ [.filler 5]))

/-- The block inputs and outputs: one iteration; the input port uses the old B and the output port the new B (R350, R359 to R366). S, Z, F5 and F3 are
those of the new B, N is bit 7 of the byte v, H = C = (k > 255), P/V is even parity of `(k & 7) ^ B`, with `k = v + (C ± 1) mod 256` for
input and `k = v + L` after the move of HL for output. -/
def Obligations.BlockInputsAndOutputsComplete : Prop :=
  ∀ s : State,
    let g := s.regs
    let b := g.b - 1
    let vi := s.busByte .io g.bc
    let vo := s.busByte .mem g.hl
    let port := mk16 b g.c
    let flags := fun (u : Byte) (k : Nat) =>
      flagsFrom b (decide (255 < k)) (evenOnes (BitVec.ofNat 8 (k % 8) ^^^ b)) u.msb (decide (255 < k))
    let read := fun (w : Word) (k : Byte) =>
      { g.setHl (g.hl + w) with b := b, wz := g.bc + w }.flagged (flags vi (vi.toNat + (g.c + k).toNat))
    let sent := fun (w : Word) =>
      { g.setHl (g.hl + w) with b := b, wz := port + w }.flagged (flags vo (vo.toNat + (lo8 (g.hl + w)).toNat))
    let again := fun (r : Regs) => { r with pc := g.pc - 2 }
    let inp := [BusEvent.filler 1, .ioRead g.bc vi, .memWrite g.hl vi]
    let out := [BusEvent.filler 1, .memRead g.hl vo, .ioWrite port vo]
    Runs .ini s (read 1 1) inp ∧ Runs .ind s (read (-1) (-1)) inp ∧ Runs .outi s (sent 1) out ∧ Runs .outd s (sent (-1)) out ∧
    (b = 0 → Runs .inir s (read 1 1) inp ∧ Runs .indr s (read (-1) (-1)) inp ∧ Runs .otir s (sent 1) out ∧ Runs .otdr s (sent (-1)) out) ∧
    (b ≠ 0 → Runs .inir s (again (read 1 1)) (inp ++ [.filler 5]) ∧ Runs .indr s (again (read (-1) (-1))) (inp ++ [.filler 5]) ∧
      Runs .otir s (again (sent 1)) (out ++ [.filler 5]) ∧ Runs .otdr s (again (sent (-1))) (out ++ [.filler 5]))

/-- A DD or FD prefix that has no effect: the instruction behind it has the meaning it has alone, and completes; the prefix costs one more M1
fetch in front, and nothing else (R152, R238). -/
def Obligations.IgnoredPrefixRunsTheInstruction : Prop :=
  ∀ (x : XY) (i : Instr),
    (∀ s : State, ∃ t, exec (.ignored x i) s = .next t ∧ exec i s = .next t) ∧
    ((Instr.ignored x i).wf = true →
      encode (.ignored x i) = x.byte :: encode i ∧ fetchCycles (encode (.ignored x i)) = .opcode :: fetchCycles (encode i))

/-! ### Encoding -/

/-- A few words written out from the spec's tables: `y` and `z` fields, prefixes, DDCB, ED, an ignored prefix and a hole (R140 to R160). -/
def Obligations.WrittenWordsDecode : Prop :=
  decode [0x3E, 0x12] = .ok (.ldRN .a 0x12) [] ∧ decode [0x21, 0x34, 0x12] = .ok (.ldRpNn .hl 0x1234) [] ∧
  decode [0x76] = .ok .halt [] ∧ decode [0x9E] = .ok .sbcMem [] ∧ decode [0xCA, 0x00, 0x80] = .ok (.jpCc .z 0x8000) [] ∧
  decode [0xDD, 0x7E, 0x05] = .ok (.ldRIdx .a .ix 0x05) [] ∧ decode [0xFD, 0x65] = .ok (.ldRRXy .iy .xh .xl) [] ∧
  decode [0xCB, 0x7C] = .ok (.bitR 7 .h) [] ∧ decode [0xFD, 0xCB, 0xFE, 0xD1] = .ok (.setIdxR .iy 0xFE 2 .c) [] ∧
  decode [0xED, 0xB0] = .ok .ldir [] ∧ decode [0xED, 0x4D] = .ok .reti [] ∧ decode [0xED, 0x00] = .ok (.holeX0 0 0) [] ∧
  decode [0xDD, 0xEB] = .ok (.ignored .ix .exDeHl) []

/-- Decoding the encoding of a well-formed instruction gives it back, whatever bytes follow. -/
def Obligations.DecodeEncodeRoundTrip : Prop :=
  ∀ (i : Instr) (rest : List Byte), i.wf = true → decode (encode i ++ rest) = .ok i rest

/-- What the decoder reads is a well-formed instruction, and its bytes are that instruction's encoding: each byte string has one meaning, and
no bit of it is dropped. -/
def Obligations.DecodeReadsOnlyEncodings : Prop :=
  ∀ (bs : List Byte) (i : Instr) (rest : List Byte), decode bs = .ok i rest → i.wf = true ∧ bs = encode i ++ rest

/-- "No encoding traps" (R160): a byte string that goes on for four bytes after its last index prefix decodes to an instruction. -/
def Obligations.EveryOpcodeDecodes : Prop :=
  ∀ (prefixes : List XY) (b c d e : Byte) (rest : List Byte), xyOf b = none →
    ∃ i after, decode (prefixes.map XY.byte ++ b :: c :: d :: e :: rest) = .ok i after

/-! ### The step -/

/-- The decoded instruction is what runs, at both levels (R6, R150, R155). When the bytes ahead decode to `i`, a step of a running core that is not
halted and has no interrupt entry to run is `exec i` after the fetch of `i`, and then retirement. At the pin level, on the falling edge that
ends the last cycle of `i` (R91, R104), the call of `clock` leaves the registers, memory, ports and boundary state of the same `exec i` and
retirement, run from the registers that `i` began with on the bytes that its read cycles captured; the pins are those of that edge. -/
def Obligations.StepRunsDecodedInstruction : Prop :=
  (∀ (s : State) (i : Instr) (rest : List Byte),
    s.mode = .running → s.pins.level.reset = true → s.flight = none → s.dec.entry = .none → s.regs.halted = false →
    s.decodeNext = .ok i rest →
    step s = andThen (exec i (({ s with events := [] } : State).sampleInt.openPins.fetchInstr i)) fun t => .next t.retire) ∧
  ∀ (s m u b v : State) (inp : PinVec) (c e : Cycle) (fl : Flight) (i : Instr) (rest : List Byte),
    m = { s with clk := false, pins := s.pins.merge inp } →
    s.clk = true → s.mode = .running → m.pins.level.reset = true → s.cycle = some c →
    m.fall c = .finished u e → u.flight = some fl → b = u.restart (fl.push e) [] →
    b.dec.entry = .none → b.regs.halted = false → b.decodeNext = .ok i rest →
    exec i (b.fetchInstr i) = .next v → v.events.length = fl.cycles + 1 →
    ∃ t, s.clock inp = .next t ∧
      t.regs = v.retire.regs ∧ t.mem = v.mem ∧ t.portOut = v.portOut ∧ t.events = v.events ∧ t.flight = none ∧
      t.dec = v.retire.dec ∧ t.cycle = v.retire.cycle ∧ t.skipInt = false ∧ t.skipNmi = false ∧
      t.nmiPending = v.retire.nmiPending ∧ t.mode = .running ∧ t.clk = false ∧ t.pins = u.pins

/-- The same from the bytes in memory: where the encoding of a well-formed instruction lies at PC, modulo 2^16, and nothing is scripted on the
data bus, a step runs that instruction (R26, R80). That the bus gives the byte that memory holds is the model's choice (log entry 1: R14 leaves
it to the host), and so is the decoder's window (log entry 9): the encodings longer than it are those with more than 65 536 prefixes, which no
memory holds. -/
def Obligations.StepRunsInstructionInMemory : Prop :=
  ∀ (s : State) (i : Instr),
    s.mode = .running → s.pins.level.reset = true → s.flight = none → s.dec.entry = .none → s.dec.modifier = none →
    s.regs.halted = false → s.dataIn = [] → i.wf = true → i.length ≤ Config.chainWindow →
    (∀ k (h : k < (encode i).length), s.mem.read (s.regs.pc + BitVec.ofNat 16 k).toNat = (encode i)[k]) →
    step s = andThen (exec i (({ s with events := [] } : State).sampleInt.openPins.fetchInstr i)) fun t => .next t.retire

/-- Fetching an instruction moves PC past its bytes and counts R once for each M1 cycle, keeping its bit 7; of the registers it changes only
these two and `instr`, and memory not at all (R26, R29). -/
def Obligations.FetchMovesPcAndRefresh : Prop :=
  ∀ (s : State) (i : Instr), s.regs.halted = false → s.dec.modifier = none →
    let t := s.fetchInstr i
    let m1 := (fetchCycles (encode i)).count .opcode
    t.regs.pc = s.regs.pc + BitVec.ofNat 16 i.length ∧
    t.regs.r.getLsbD 7 = s.regs.r.getLsbD 7 ∧ t.regs.r.toNat % 128 = (s.regs.r.toNat + m1) % 128 ∧
    t.regs = { s.regs with pc := t.regs.pc, r := t.regs.r, instr := t.regs.instr } ∧ t.mem = s.mem ∧ t.portOut = s.portOut

/-- The core raises no synchronous exception: every instruction completes from every state; and a step never faults, and is refused only at an INT
entry in interrupt mode 0 whose acknowledged byte is no RST (R370, R382; log entry 19). -/
def Obligations.EveryStepCompletes : Prop :=
  (∀ (i : Instr) (s : State), ∃ t, exec i s = .next t) ∧
  ∀ s : State, (∃ t, step s = .next t) ∨
    (step s = .refused .im0NonRst ∧ s.pins.level.reset = true ∧ s.mode = .running ∧ s.rewind.dec.entry = .int ∧ s.rewind.regs.im = .im0 ∧
      s.rewind.busByte .inta s.rewind.regs.pc &&& 0xC7 ≠ 0xC7)

/-! ### What an instruction changes: whole-machine statements -/

/-- An instruction changes only the registers that its rule names, and Q (R46). -/
def Obligations.RegistersChangeOnlyWhereStated : Prop :=
  ∀ (i : Instr) (s t : State) (n : RegName), exec i s = .next t → n ∉ i.writes → n ≠ .q → t.regs.agree s.regs n = true

/-- An instruction changes only the flags that its rule names (R24, R25). -/
def Obligations.FlagsChangeOnlyWhereStated : Prop :=
  ∀ (i : Instr) (s t : State), exec i s = .next t → (t.regs.f ^^^ s.regs.f) &&& ~~~i.flagMask = 0

/-- Every address but those an instruction stores to reads as before; `Instr.stores` computes those addresses from the registers the meaning
starts with (R86, R192). -/
def Obligations.MemoryChangesOnlyWhereStored : Prop :=
  ∀ (i : Instr) (s t : State) (a : Word), exec i s = .next t → a ∉ i.stores s.regs → t.mem.read a.toNat = s.mem.read a.toNat

/-- Only the I/O instructions reach the I/O space, at the ports their rules name (R81). -/
def Obligations.PortsReachedOnlyByIoInstructions : Prop :=
  ∀ (i : Instr) (s t : State), exec i s = .next t →
    ∃ ev, t.events = ev ++ s.events ∧
      (ev.filter BusEvent.isIo).map (fun e => match e with
        | .ioRead p _ => (true, p) | .ioWrite p _ => (false, p)
        | .fetch a _ _ => (true, a) | .memRead a _ => (true, a) | .memWrite a _ => (true, a) | .intAck a _ _ => (true, a)
        | .filler _ => (true, 0)) =
      (i.portsOut s.regs).map (fun p => (false, p)) ++ (i.portsIn s.regs).map (fun p => (true, p))

/-- No instruction changes the NMI flip-flop (R38, R372), the INT latch (R39, R92) or `skip_nmi`, and only EI sets `skip_int` (R376); of the decoder
state an instruction changes what its indexed address computation does, and no more (R150, R154). That the meaning also leaves the mode, the
clock phase, the active cycle and the pins is how the model is cut (R6, log entries 13 and 17): what surrounds a meaning settles them. -/
def Obligations.ControlStateUntouched : Prop :=
  ∀ (i : Instr) (s t : State), exec i s = .next t →
    t.mode = s.mode ∧ t.clk = s.clk ∧ t.cycle = s.cycle ∧ t.pins = s.pins ∧ t.flight = s.flight ∧
    t.nmiPending = s.nmiPending ∧ t.intLatch = s.intLatch ∧ t.skipNmi = s.skipNmi ∧
    (behindPrefixes i ≠ .ei → t.skipInt = s.skipInt) ∧ (t.dec = s.dec ∨ t.dec = s.dec.eaComputed)

/-- Q holds the flags that the instruction wrote, and 0 if it wrote none; POP AF, EX AF,AF' and the interrupt entries leave 0 (R35). -/
def Obligations.QHoldsFlagsWritten : Prop :=
  (∀ (i : Instr) (s t : State), exec i s = .next t →
    t.regs.q = if i.flagMask = 0 ∨ behindPrefixes i = .exAfAf ∨ behindPrefixes i = .popRr .af then 0 else t.regs.f) ∧
  (∀ s : State, s.nmiEntry.regs.q = 0) ∧ ∀ s t : State, s.intEntry = .next t → t.regs.q = 0

/-- Q is read only by SCF and CCF (R36): no other instruction's outcome depends on it. Those two take F5 and F3 from `(Q ^ F) | A`: from A after an
instruction that wrote flags, and from `F | A` after one that did not. -/
def Obligations.QIsReadOnlyByScfAndCcf : Prop :=
  (∀ (i : Instr) (s : State) (v : Byte), behindPrefixes i ≠ .scf → behindPrefixes i ≠ .ccf →
    exec i (s.setRegs { s.regs with q := v }) = exec i s) ∧
  ∀ (i : Instr) (s : State), i = .scf ∨ i = .ccf → ∃ t, exec i s = .next t ∧
    let source := (s.regs.q ^^^ s.regs.f) ||| s.regs.a
    t.regs.f.getLsbD 5 = source.getLsbD 5 ∧ t.regs.f.getLsbD 3 = source.getLsbD 3 ∧
    (s.regs.q = s.regs.f → t.regs.f.getLsbD 5 = s.regs.a.getLsbD 5 ∧ t.regs.f.getLsbD 3 = s.regs.a.getLsbD 3) ∧
    (s.regs.q = 0 → t.regs.f.getLsbD 5 = (s.regs.f ||| s.regs.a).getLsbD 5 ∧ t.regs.f.getLsbD 3 = (s.regs.f ||| s.regs.a).getLsbD 3)

/-- WZ shows only in F5 and F3 of BIT b,(HL): two runs that differ in WZ alone end in states that differ in WZ alone (R31). -/
def Obligations.WzShowsOnlyInBitMem : Prop :=
  ∀ (i : Instr) (s t : State) (w : Word), (∀ b, behindPrefixes i ≠ .bitMem b) → exec i s = .next t →
    ∃ u, exec i (s.setWz w) = .next u ∧ u = t.setWz u.regs.wz

/-- The T-states of every instruction, fetch included, are those of the timing table (R420). -/
def Obligations.TimingMatchesTable : Prop :=
  ∀ (i : Instr) (s t : State), i.wf = true → s.events = [] → s.dec.modifier = none →
    exec i (s.fetchInstr i) = .next t → t.tStates ∈ i.tTotals

/-! ### Round trips and arithmetic -/

/-- The stack gives back what was put on it, wherever SP stands: POP after PUSH restores the pair and SP; RET after CALL comes back to the
instruction after the CALL; RETN after an NMI entry restores PC, SP and, from IFF2, IFF1 (R83, R261, R262, R278, R279, R379, R391). That a
pushed byte reads back is the model's choice: the attached memory, with nothing scripted on the data bus (log entry 1). -/
def Obligations.StackRoundTrips : Prop :=
  ∀ (s : State) (p : RP2) (x : XY) (nn : Word) (y : BitVec 3), s.mem.wf = true → s.dataIn = [] →
    (∃ t u, exec (.pushRr p) s = .next t ∧ exec (.popRr p) t = .next u ∧ u.regs = s.regs.plain) ∧
    (∃ t u, exec (.pushXy x) s = .next t ∧ exec (.popXy x) t = .next u ∧ u.regs = s.regs.plain) ∧
    (∃ t u, exec (.call nn) s = .next t ∧ t.regs.pc = nn ∧ exec .ret t = .next u ∧ u.regs = { s.regs.plain with wz := s.regs.pc }) ∧
    (s.regs.halted = false → ∃ u, exec (.retn y) s.nmiEntry = .next u ∧
      u.regs.pc = s.regs.pc ∧ u.regs.sp = s.regs.sp ∧ u.regs.iff1 = s.regs.iff2 ∧ u.regs.iff2 = s.regs.iff2)

/-- ADD and ADC (R172, R173): A and every flag as arithmetic. P/V is the overflow of the signed sum. -/
def Obligations.AdditionFlagsAreArithmetic : Prop :=
  ∀ (s : State) (b : Byte), ∃ t u, exec (.addN b) s = .next t ∧ exec (.adcN b) s = .next u ∧
    ∀ p ∈ [(t, false), (u, flagC s.regs.f)],
      let a := s.regs.a
      let r := a.toNat + b.toNat + bit01 p.2
      let signed := a.toInt + b.toInt + bit01 p.2
      let res := p.1.regs.a
      let f := p.1.regs.f
      res.toNat = r % 256 ∧ flagS f = decide (128 ≤ r % 256) ∧ flagZ f = decide (r % 256 = 0) ∧
      flag5 f = res.getLsbD 5 ∧ flag3 f = res.getLsbD 3 ∧ flagH f = decide (15 < a.toNat % 16 + b.toNat % 16 + bit01 p.2) ∧
      flagN f = false ∧ flagC f = decide (255 < r) ∧ flagPV f = (a.msb == b.msb && res.msb != a.msb) ∧
      flagPV f = decide (signed < -128 ∨ 127 < signed)

/-- SUB, SBC and CP (R174, R175, R179): A and every flag as arithmetic; CP leaves A and takes F5 and F3 from its operand. -/
def Obligations.SubtractionFlagsAreArithmetic : Prop :=
  ∀ (s : State) (b : Byte), ∃ t u v, exec (.subN b) s = .next t ∧ exec (.sbcN b) s = .next u ∧ exec (.cpN b) s = .next v ∧
    (∀ p ∈ [(t, false), (u, flagC s.regs.f)],
      let a := s.regs.a
      let r : Int := (a.toNat : Int) - b.toNat - bit01 p.2
      let signed := a.toInt - b.toInt - bit01 p.2
      let res := p.1.regs.a
      let f := p.1.regs.f
      (res.toNat : Int) = r % 256 ∧ flagS f = decide (128 ≤ r % 256) ∧ flagZ f = decide (r % 256 = 0) ∧
      flag5 f = res.getLsbD 5 ∧ flag3 f = res.getLsbD 3 ∧ flagH f = decide (a.toNat % 16 < b.toNat % 16 + bit01 p.2) ∧
      flagN f = true ∧ flagC f = decide (r < 0) ∧ flagPV f = (a.msb != b.msb && res.msb != a.msb) ∧
      flagPV f = decide (signed < -128 ∨ 127 < signed)) ∧
    v.regs.a = s.regs.a ∧ flag5 v.regs.f = b.getLsbD 5 ∧ flag3 v.regs.f = b.getLsbD 3 ∧ v.regs.f &&& 0xD7 = t.regs.f &&& 0xD7

/-- AND, XOR and OR (R170, R176, R177, R178): A, and the flags from the new A; P/V is even parity. -/
def Obligations.LogicFlagsFollowTheResult : Prop :=
  ∀ (s : State) (b : Byte), ∃ t u v, exec (.andN b) s = .next t ∧ exec (.xorN b) s = .next u ∧ exec (.orN b) s = .next v ∧
    t.regs.a = s.regs.a &&& b ∧ u.regs.a = s.regs.a ^^^ b ∧ v.regs.a = s.regs.a ||| b ∧
    ∀ p ∈ [(t, true), (u, false), (v, false)],
      let res := p.1.regs.a
      let f := p.1.regs.f
      flagS f = res.msb ∧ flagZ f = decide (res = 0) ∧ flag5 f = res.getLsbD 5 ∧ flag3 f = res.getLsbD 3 ∧ flagH f = p.2 ∧
      flagPV f = decide ((List.range 8).countP (fun k => res.getLsbD k) % 2 = 0) ∧ flagN f = false ∧ flagC f = false

/-- The 16-bit sums and differences of ADC HL and SBC HL: result, carry, zero, sign, half carry, signed overflow, F5 and F3 as arithmetic; ADD HL
has the same, and leaves S, Z and P/V (R184, R185, R186). -/
def Obligations.WordFlagsAreArithmetic : Prop :=
  ∀ (a b : Word) (cin : Bool) (old : Flags),
    let r := a.toNat + b.toNat + bit01 cin
    let d : Int := (a.toNat : Int) - b.toNat - bit01 cin
    let p := adc16 a b cin
    let m := sbc16 a b cin
    p.1.toNat = r % 65536 ∧ p.2.c = decide (65535 < r) ∧ p.2.z = decide (r % 65536 = 0) ∧ p.2.s = p.1.msb ∧ p.2.n = false ∧
    p.2.y = p.1.getLsbD 13 ∧ p.2.x = p.1.getLsbD 11 ∧ m.2.y = m.1.getLsbD 13 ∧ m.2.x = m.1.getLsbD 11 ∧
    p.2.h = decide (4095 < a.toNat % 4096 + b.toNat % 4096 + bit01 cin) ∧
    p.2.pv = decide (a.toInt + b.toInt + bit01 cin < -32768 ∨ 32767 < a.toInt + b.toInt + bit01 cin) ∧
    (m.1.toNat : Int) = d % 65536 ∧ m.2.c = decide (d < 0) ∧ m.2.z = decide (d % 65536 = 0) ∧ m.2.s = m.1.msb ∧ m.2.n = true ∧
    m.2.h = decide (a.toNat % 4096 < b.toNat % 4096 + bit01 cin) ∧
    m.2.pv = decide (a.toInt - b.toInt - bit01 cin < -32768 ∨ 32767 < a.toInt - b.toInt - bit01 cin) ∧
    add16 a b old = ((adc16 a b false).1,
      { (adc16 a b false).2 with s := old.s, z := old.z, pv := old.pv })

/-- DAA makes decimal arithmetic of ADD, ADC, SUB and SBC: for packed decimal operands, A is the decimal sum or difference modulo 100 and C the
decimal carry or borrow (R187). -/
def Obligations.DaaGivesDecimalArithmetic : Prop :=
  ∀ (m n : Fin 100) (cin : Bool),
    let sum := add8 (bcd m) (bcd n) cin
    let diff := sub8 (bcd m) (bcd n) cin
    (daa8 sum.1 sum.2).1 = bcd ((m + n + bit01 cin) % 100) ∧ (daa8 sum.1 sum.2).2.c = decide (100 ≤ m.val + n.val + bit01 cin) ∧
    (daa8 diff.1 diff.2).1 = bcd ((m.val + 100 - n.val + (100 - bit01 cin)) % 100) ∧
    (daa8 diff.1 diff.2).2.c = decide (m.val < n.val + bit01 cin)

/-- LDIR copies: from a state in which BC counts `n` bytes and no destination byte is a later source byte, `n` iterations leave BC = 0, move HL
and DE up by `n`, leave PC after the instruction, and every destination byte holds its source byte; no other byte changes (R350, R353). That a
byte reads back as it was written is the model's choice (log entry 1). -/
def Obligations.LdirCopiesTheBlock : Prop :=
  ∀ (s : State) (n : Nat), s.mem.wf = true → s.dataIn = [] → 0 < n → n ≤ 65536 → s.regs.bc = BitVec.ofNat 16 n →
    (∀ j k, k < j → j < n → s.regs.hl + BitVec.ofNat 16 j ≠ s.regs.de + BitVec.ofNat 16 k) →
    ∃ t, blockRun .ldir n s = some t ∧ t.regs.bc = 0 ∧ t.regs.hl = s.regs.hl + BitVec.ofNat 16 n ∧
      t.regs.de = s.regs.de + BitVec.ofNat 16 n ∧ t.regs.pc = s.regs.pc + 2 ∧
      (∀ k, k < n → t.mem.read (s.regs.de + BitVec.ofNat 16 k).toNat = s.mem.read (s.regs.hl + BitVec.ofNat 16 k).toNat) ∧
      ∀ a : Word, (∀ k, k < n → a ≠ s.regs.de + BitVec.ofNat 16 k) → t.mem.read a.toNat = s.mem.read a.toNat

/-! ### The invariant -/

/-- The machine right after reset meets the invariant; so does the machine at power-on (R43, R47, R412). -/
def Obligations.ResetMeetsInvariant : Prop := Inv State.reset ∧ Inv State.powerOn

/-- Every step keeps the invariant: memory stays canonical, the inputs stay undriven and the four two-state outputs driven, one cycle is active
exactly while the core runs, the skip flags are consumed, and an accepted interrupt finds the core awake and, for INT, masked (R40, R43, R44, R374). -/
def Obligations.StepKeepsInvariant : Prop := ∀ s t : State, Inv s → step s = .next t → Inv t

/-- Every call of `clock`, whatever the host drives, keeps the invariant (R43, R44, R91). -/
def Obligations.ClockKeepsInvariant : Prop := ∀ (s t : State) (inp : PinVec), Inv s → s.clock inp = .next t → Inv t

/-! ### Reset -/

/-- RESET low on any call, on either edge, abandons the cycle and the instruction in flight, sets mode Reset, clears the decoder state and forces
the power-on pin pattern. The core starts in mode Reset (R116). -/
def Obligations.EnterReset : Prop :=
  State.powerOn.mode = .reset ∧
  ∀ (s : State) (inp : PinVec), s.pins.dir.reset = false → inp.reset = false → ∃ t, s.clock inp = .next t ∧
    t.mode = .reset ∧ t.cycle = none ∧ t.flight = none ∧ t.dec = .reset ∧
    t.pins.dir.addr = 0 ∧ t.pins.dir.data = 0 ∧ t.pins.dir.mreq = false ∧ t.pins.dir.iorq = false ∧ t.pins.dir.rd = false ∧
    t.pins.dir.wr = false ∧ t.pins.dir.m1 = true ∧ t.pins.dir.rfsh = true ∧ t.pins.dir.halt = true ∧ t.pins.dir.busack = true ∧
    t.pins.dir.int = false ∧ t.pins.dir.nmi = false ∧ t.pins.dir.wait = false ∧ t.pins.dir.busreq = false ∧
    t.pins.dir.reset = false ∧ t.pins.level.m1 = true ∧ t.pins.level.rfsh = true ∧ t.pins.level.halt = true ∧
    t.pins.level.busack = true

/-- The first rising edge with RESET high leaves Reset: the reset values, a Fetch whose T1 is that edge, and A = PC = 0x0000. A falling edge
stays in Reset (R47, R117). The model's choice for a step of the transaction level with RESET low (log entry 15): it enters Reset, or stays in
it, and records no bus cycle. -/
def Obligations.LeaveReset : Prop :=
  (∀ (s : State) (inp : PinVec), Inv s → s.mode = .reset → inp.reset = true →
    (s.clk = true → ∃ t, s.clock inp = .next t ∧ t.mode = .reset ∧ t.cycle = none ∧ t.regs = s.regs) ∧
    (s.clk = false → ∃ t, s.clock inp = .next t ∧
      t.regs = { a := 0xFF, f := 0xFF, b := 0, c := 0, d := 0, e := 0, h := 0, l := 0, aAlt := 0, fAlt := 0, bAlt := 0, cAlt := 0,
                 dAlt := 0, eAlt := 0, hAlt := 0, lAlt := 0, ix := 0, iy := 0, sp := 0xFFFF, pc := 0, i := 0, r := 0, wz := 0,
                 instr := 0, iff1 := false, iff2 := false, im := .im0, q := 0, halted := false } ∧
      t.nmiPending = false ∧ t.skipInt = false ∧ t.skipNmi = false ∧ t.intLatch = inp.int ∧
      t.dec.started = false ∧ t.dec.modifier = none ∧ t.dec.subset = .none ∧ t.dec.entry = .none ∧ t.mode = .running ∧
      (∃ c, t.cycle = some c ∧ c.kind = .fetch ∧ c.t = 0) ∧
      t.pins.level.addr = 0 ∧ t.pins.dir.addr = 0xFFFF ∧ t.pins.level.m1 = false ∧ t.mem = s.mem)) ∧
  ∀ s : State, s.pins.level.reset = false → ∃ t, step s = .next t ∧ t.mode = .reset ∧ t.cycle = none ∧ t.dec = .reset ∧ t.events = []

/-! ### Interrupts -/

/-- Arbitration at the boundary that a step ends at (R374, R390): a pending NMI is taken first and its flip-flop cleared; without one, INT is taken
if it is low, IFF1 is 1 after what the step ran and that was no EI, and never otherwise, so never at the end of an NMI or INT entry (R386);
the cycle armed is an acknowledge for INT and a fetch at PC for all else. INT is the level of its pin during the step (log entry 14); the
premise says that the bytes ahead hold an instruction, and not one endless prefix chain (log entry 9). -/
def Obligations.ArbitrationAtEveryBoundary : Prop :=
  ∀ s t : State, Inv s → s.mode = .running → s.pins.level.reset = true →
    (s.rewind.dec.entry = .none → s.rewind.regs.halted = false → s.rewind.decodeNext ≠ .truncated) → step s = .next t →
    let b := s.rewind.sampleInt.openPins
    let ranWithIff1 := (b.dec.entry = .none ∧ b.regs.halted = true ∧ b.regs.iff1 = true) ∨
      (b.dec.entry = .none ∧ b.regs.halted = false ∧ ∃ i rest u, b.decodeNext = .ok i rest ∧ behindPrefixes i ≠ .ei ∧
        exec i (b.fetchInstr i) = .next u ∧ u.regs.iff1 = true)
    t.nmiPending = false ∧ t.skipInt = false ∧ t.skipNmi = false ∧ t.dec = { Decoder.reset with entry := t.dec.entry } ∧
    (t.dec.entry = .nmi ↔ s.nmiPending = true) ∧
    (t.dec.entry = .int ↔ s.nmiPending = false ∧ s.pins.level.int = false ∧ ranWithIff1) ∧
    (t.dec.entry = .int → t.regs.iff1 = false ∧ t.regs.iff2 = false) ∧
    (s.rewind.dec.entry ≠ .none → t.dec.entry ≠ .int) ∧
    (t.dec.entry = .none → s.pins.level.int = false → t.regs.iff1 = true →
      ∃ i rest, s.rewind.decodeNext = .ok i rest ∧ behindPrefixes i = .ei) ∧
    (t.dec.entry ≠ .none → t.regs.halted = false) ∧
    ∃ c, t.cycle = some c ∧ c.t = -1 ∧ c.kind = (if t.dec.entry = .int then .intAck else .fetch)

/-- IFF1 masks INT, and EI defers it by one instruction: after an instruction that runs with IFF1 = 0 no INT is accepted, unless it is one of
those that can set IFF1; nor at EI's own boundary, nor after DI, nor after RETN or RETI with IFF2 = 0; after any other instruction with
IFF1 = 1, and after RETN or RETI with IFF2 = 1, an INT that is low during the step is accepted (R328, R336, R375, R376; log entry 14). -/
def Obligations.IntIsMaskedAndDeferred : Prop :=
  ∀ (s t : State) (i : Instr) (rest : List Byte),
    Inv s → s.mode = .running → s.pins.level.reset = true → s.flight = none → s.dec.entry = .none → s.regs.halted = false →
    s.decodeNext = .ok i rest → step s = .next t →
    let j := behindPrefixes i
    (s.regs.iff1 = false → j ≠ .ei → j ≠ .reti → (∀ y, j ≠ .retn y) → t.dec.entry ≠ .int ∧ t.regs.iff1 = false) ∧
    (j = .ei → t.dec.entry ≠ .int ∧ t.regs.iff1 = true ∧ t.regs.iff2 = true) ∧
    (j = .di → t.dec.entry ≠ .int ∧ t.regs.iff1 = false ∧ t.regs.iff2 = false) ∧
    (j = .reti ∨ (∃ y, j = .retn y) → s.regs.iff2 = false → t.dec.entry ≠ .int ∧ t.regs.iff1 = false) ∧
    (j = .reti ∨ (∃ y, j = .retn y) → s.regs.iff2 = true → s.nmiPending = false → s.pins.level.int = false → t.dec.entry = .int) ∧
    (s.regs.iff1 = true → s.nmiPending = false → s.pins.level.int = false →
      j ≠ .ei → j ≠ .di → j ≠ .reti → (∀ y, j ≠ .retn y) → t.dec.entry = .int ∧ t.regs.iff1 = false ∧ t.regs.iff2 = false)

/-- The NMI entry (R379): a fetch whose byte is not executed, F(1), the return PC on the stack, IFF1 = 0 with IFF2 kept, PC = WZ = 0x0066, Q = 0;
11 T-states; every other register is unchanged. That the pushed bytes read back from the attached memory, and that every other address of it
reads as before, is the model's choice (log entry 1). -/
def Obligations.NmiEntryEffect : Prop :=
  ∀ s : State, Inv s → s.mode = .running → s.pins.level.reset = true → s.flight = none → s.dec.entry = .nmi →
    ∃ t, step s = .next t ∧
      let g := s.regs
      let v := s.busByte .mem g.pc
      t.regs = { g with pc := 0x0066, wz := 0x0066, q := 0, iff1 := false, sp := g.sp - 2, r := refreshInc g.r, instr := v } ∧
      t.events.reverse = [.fetch g.pc v g.ir, .filler 1, .memWrite (g.sp - 1) (hi8 g.pc), .memWrite (g.sp - 2) (lo8 g.pc)] ∧
      t.tStates = 11 ∧ t.mem.read (g.sp - 1).toNat = hi8 g.pc ∧ t.mem.read (g.sp - 2).toNat = lo8 g.pc ∧
      ∀ a : Word, a ≠ g.sp - 1 → a ≠ g.sp - 2 → t.mem.read a.toNat = s.mem.read a.toNat

/-- The INT entry in its three modes (R380, R382, R383, R384): the acknowledge reads the byte `v`; mode 0 goes to the target of the RST that `v` is,
and is refused if `v` is none (log entry 19: the parameter has the one value the spec gives it); mode 1 goes to 0x0038; mode 2 goes to the
word at `I:v`, read after the push. That the pushed bytes and the word of mode 2 read as the attached memory holds them, with nothing scripted
on the data bus in mode 2, is the model's choice (log entry 1). -/
def Obligations.IntEntryEffect : Prop :=
  ∀ s : State, Inv s → s.mode = .running → s.pins.level.reset = true → s.flight = none → s.dec.entry = .int →
    let g := s.regs
    let v := s.busByte .inta g.pc
    let saved := fun (target : Word) =>
      { g with pc := target, wz := target, q := 0, iff1 := false, iff2 := false, halted := false, sp := g.sp - 2, r := refreshInc g.r }
    let cycles := [BusEvent.intAck g.pc v g.ir, .filler 1, .memWrite (g.sp - 1) (hi8 g.pc), .memWrite (g.sp - 2) (lo8 g.pc)]
    let pushed := fun (t : State) => t.mem.read (g.sp - 1).toNat = hi8 g.pc ∧ t.mem.read (g.sp - 2).toNat = lo8 g.pc ∧
      ∀ a : Word, a ≠ g.sp - 1 → a ≠ g.sp - 2 → t.mem.read a.toNat = s.mem.read a.toNat
    (g.im = .im0 → v &&& 0xC7 = 0xC7 →
      ∃ t, step s = .next t ∧ t.regs = saved ((v &&& 0x38).setWidth 16) ∧ t.events.reverse = cycles ∧ t.tStates = 13 ∧ pushed t) ∧
    (g.im = .im0 → v &&& 0xC7 ≠ 0xC7 → step s = .refused .im0NonRst) ∧
    (g.im = .im1 → ∃ t, step s = .next t ∧ t.regs = saved 0x0038 ∧ t.events.reverse = cycles ∧ t.tStates = 13 ∧ pushed t) ∧
    (g.im = .im2 → s.dataIn = [] → ∃ t, step s = .next t ∧
      let a := mk16 g.i v
      let lo := t.mem.read a.toNat
      let hi := t.mem.read (a + 1).toNat
      t.regs = saved (mk16 hi lo) ∧ t.events.reverse = cycles ++ [.memRead a lo, .memRead (a + 1) hi] ∧ t.tStates = 19 ∧ pushed t)

/-- A halted core (R97, R241, R399): each step is one fetch of 4 T-states at the same PC, executed as a no-op; `instr` is 0, R counts, and nothing
else changes; it wakes only by an accepted NMI, or an INT with IFF1 = 1 (log entry 14 for INT within a step). -/
def Obligations.HaltedCoreOnlyFetches : Prop :=
  ∀ s : State, Inv s → s.mode = .running → s.pins.level.reset = true → s.flight = none → s.dec.entry = .none → s.regs.halted = true →
    ∃ t, step s = .next t ∧
      t.events.reverse = [.fetch s.regs.pc (s.busByte .mem s.regs.pc) s.regs.ir] ∧ t.tStates = 4 ∧ t.mem = s.mem ∧
      (t.dec.entry = .none → t.regs = { s.regs with instr := 0, r := refreshInc s.regs.r, q := 0 }) ∧
      t.regs.pc = s.regs.pc ∧ (t.regs.halted = false ↔ t.dec.entry ≠ .none) ∧
      (t.dec.entry = .nmi ↔ s.nmiPending = true) ∧
      (t.dec.entry = .int ↔ s.nmiPending = false ∧ s.pins.level.int = false ∧ s.regs.iff1 = true)

/-- R counts the M1 cycles: each opcode fetch and each acknowledge adds 1 to its low seven bits and keeps bit 7; operand reads, fillers and memory
and I/O cycles leave it; of the instructions only LD R,A writes it, all eight bits, and LD A,R reads it; a DDCB or FDCB instruction has two M1
cycles (R29). -/
def Obligations.RefreshCountsM1Cycles : Prop :=
  (∀ s : State, s.ocf.regs.r.getLsbD 7 = s.regs.r.getLsbD 7 ∧ s.ocf.regs.r.toNat % 128 = (s.regs.r.toNat % 128 + 1) % 128) ∧
  (∀ s : State, s.inta fun _ t => t.regs.r.getLsbD 7 = s.regs.r.getLsbD 7 ∧ t.regs.r.toNat % 128 = (s.regs.r.toNat % 128 + 1) % 128) ∧
  (∀ (s : State) (n : Nat), s.fetchOperand.regs.r = s.regs.r ∧ (s.fill n).regs.r = s.regs.r) ∧
  (∀ (i : Instr) (s t : State), behindPrefixes i ≠ .ldRA → exec i s = .next t → t.regs.r = s.regs.r) ∧
  (∀ s : State, ∃ t u, exec .ldRA s = .next t ∧ t.regs.r = s.regs.a ∧ exec .ldAR s = .next u ∧ u.regs.a = s.regs.r) ∧
  ∀ (x : XY) (d op : Byte), (fetchCycles [x.byte, 0xCB, d, op]).count .opcode = 2

/-- The host's other calls: `trigger_nmi()` sets the flip-flop and nothing else, and a second call adds nothing (R372); an injection at a
boundary, or in Reset, replaces the register file, which an inspection at a boundary then shows; in the middle of an instruction, and with
`int_mode = 3`, it is refused (R401, R402). -/
def Obligations.HostCallsBehave : Prop :=
  ∀ (s : State) (rf : RegImage),
    s.triggerNmi = { s with nmiPending := true } ∧ s.triggerNmi.triggerNmi = s.triggerNmi ∧
    (s.atBoundary = true ∨ s.mode = .reset → ∀ m, (rf.intMode = 0 ∧ m = .im0) ∨ (rf.intMode = 1 ∧ m = .im1) ∨ (rf.intMode = 2 ∧ m = .im2) →
      s.setRegisters rf = .next { s with regs := { rf.regs with im := m } }) ∧
    (s.atBoundary = true ∨ s.mode = .reset → rf.intMode = 3 → s.setRegisters rf = .refused .injectionIntMode3) ∧
    (s.mode = .running → s.atBoundary = false → s.setRegisters rf = .refused .injectionMidInstruction) ∧
    (s.atBoundary = true → s.getRegisters = s.regs)

/-! ### The pin level -/

/-- A call of `clock` lets the host's levels reach the pins that the core does not drive, and no others (R91): its whole outcome is the same for any
two input vectors that agree on the undriven pins, and on a falling edge in Reset the pins after it are the merged ones, each undriven pin at
the host's level and each driven pin as it was. It toggles the phase (R90); a running core samples INT on the rising edge, and keeps the latch
on the falling one (R92). -/
def Obligations.ClockReadsItsInputs : Prop :=
  (∀ (p : PinBus) (inp : PinVec) (n : PinName), (p.merge inp).level.get n = if p.dir.get n then p.level.get n else inp.get n) ∧
  (∀ (s : State) (inp inp2 : PinVec), (∀ n, s.pins.dir.get n = false → inp.get n = inp2.get n) → s.clock inp = s.clock inp2) ∧
  (∀ (s : State) (inp : PinVec), s.mode = .reset → s.clk = true → s.pins.dir.reset = false → inp.reset = true →
    ∃ t, s.clock inp = .next t ∧ t.pins.dir = s.pins.dir ∧
      ∀ n, t.pins.level.get n = if s.pins.dir.get n then s.pins.level.get n else inp.get n) ∧
  ∀ (s t : State) (inp : PinVec), s.clock inp = .next t →
    t.clk = !s.clk ∧
    (Inv s → s.mode = .running → inp.reset = true → t.intLatch = if s.clk then s.intLatch else inp.int)

/-- The nominal lengths (R105): with WAIT and BUSREQ inactive, a cycle of each kind reports completion on the falling edge that ends its last
T-state, and not before (R104); a filler does so whatever WAIT and BUSREQ do, and changes no pin (R103). -/
def Obligations.CycleLengths : Prop :=
  ∀ (s : State) (c : Cycle), c.t = -1 → c.release = .none → c.releaseStaged = false →
    (∀ n, (c.kind = .fetch ∧ n = 4) ∨ (c.kind = .memRead ∧ n = 3) ∨ (c.kind = .memWrite ∧ n = 3) ∨ (c.kind = .ioRead ∧ n = 4) ∨
        (c.kind = .ioWrite ∧ n = 4) ∨ (c.kind = .intAck ∧ n = 6) →
      s.pins.level.wait = true → s.pins.level.busreq = true → ∃ t, edges true (2 * n) s c = some (2 * n, t)) ∧
    (c.kind = .filler → 0 < c.fillT → ∃ t, edges true (2 * c.fillT) s c = some (2 * c.fillT, t) ∧ t.pins = s.pins)

/-- WAIT low at the sampling edge makes the same T-state repeat: `t` counts back, the next rising edge counts it again, and the cycle does not
complete; no register changes (R94). A running core with no active cycle is a contract violation (R115). -/
def Obligations.WaitRepeatsTheTState : Prop :=
  (∀ (s : State) (c : Cycle) (t : Nat),
    (t = 1 ∧ (c.kind = .fetch ∨ c.kind = .memRead ∨ c.kind = .memWrite)) ∨ (t = 2 ∧ (c.kind = .ioRead ∨ c.kind = .ioWrite)) ∨
      (t = 3 ∧ c.kind = .intAck) →
    c.t = t → c.release = .none → s.pins.level.wait = false →
    ∃ u d, s.fall c = .going u ∧ u.cycle = some d ∧ d.t = (t : Int) - 1 ∧ u.regs = s.regs ∧
      ∃ v e, u.rise d = .going v ∧ v.cycle = some e ∧ e.t = t ∧ e.kind = c.kind ∧ e.release = .none ∧ v.regs = s.regs) ∧
  ∀ (s : State) (inp : PinVec), s.mode = .running → s.cycle = none → s.pins.dir.reset = false → inp.reset = true →
    s.clock inp = .fault .contractViolation

/-- Bus release: a cycle whose last T-state ends with a release staged is put off (R110); at the next rising edge the three-state pins float and
BUSACK goes low, and M1, RFSH and HALT stay (R111); while BUSREQ is low nothing changes, and when it is high at a rising edge the core drives the
bus again, strobes idle and the address last driven (R112); the next falling edge completes the cycle (R113). -/
def Obligations.BusReleaseAndRetake : Prop :=
  ∀ (s : State) (c : Cycle),
    (c.kind ≠ .filler → c.release = .none → c.releaseStaged = true → c.t + 1 = c.nominal →
      ∃ t d, s.fall c = .going t ∧ t.cycle = some d ∧ d.release = .pending ∧ t.pins.strobes = (s.act c (2 * c.t.toNat + 1)).1.pins.strobes) ∧
    (c.release = .pending → s.rise c = .going { s with
      cycle := some { c with release := .released }
      pins := {
        level := { s.pins.level with busack := false }
        dir := { s.pins.dir with addr := 0, data := 0, mreq := false, iorq := false, rd := false, wr := false } } }) ∧
    (c.release = .released → s.fall c = .going s ∧
      (s.pins.level.busreq = false → s.rise c = .going s) ∧
      (s.pins.level.busreq = true → s.rise c = .going { s with
        cycle := some { c with release := .ending }
        pins := {
          level := { s.pins.level with busack := true, addr := c.addr, mreq := true, iorq := true, rd := true, wr := true }
          dir := { s.pins.dir with addr := 0xFFFF, mreq := true, iorq := true, rd := true, wr := true } } })) ∧
    (c.release = .ending → s.fall c = .finished s c)

/-- The wave forms of the six bus-driving cycles, half-edge by half-edge, with WAIT and BUSREQ inactive: the strobes that are low, the address, and
when the data lines are driven and with what (R96, R98 to R102). -/
def Obligations.CycleWaveforms : Prop :=
  ∀ (s : State) (a : Word) (v : Byte), s.pins.level.wait = true → s.pins.level.busreq = true →
    let run := fun (k : CycleKind) (n : Nat) => waves true (2 * n) s (.armed k a v 0)
    let strobes := fun (k : CycleKind) (n : Nat) => (run k n).map PinBus.strobes
    let address := fun (k : CycleKind) (n : Nat) => (run k n).map fun p => p.level.addr
    let driven := fun (k : CycleKind) (n : Nat) => (run k n).map fun p => p.dir.data
    let pc := s.regs.pc
    let ir := s.regs.ir
    strobes .fetch 4 = [[.m1], [.m1, .mreq, .rd], [.m1, .mreq, .rd], [.m1, .mreq, .rd], [.rfsh], [.mreq, .rfsh], [.mreq, .rfsh], []] ∧
    address .fetch 4 = [pc, pc, pc, pc, ir, ir, ir, ir] ∧ driven .fetch 4 = List.replicate 8 0 ∧
    strobes .memRead 3 = [[], [.mreq, .rd], [.mreq, .rd], [.mreq, .rd], [.mreq, .rd], []] ∧
    address .memRead 3 = List.replicate 6 a ∧ driven .memRead 3 = List.replicate 6 0 ∧
    strobes .memWrite 3 = [[], [.mreq], [.mreq], [.mreq, .wr], [.mreq, .wr], []] ∧
    address .memWrite 3 = List.replicate 6 a ∧ driven .memWrite 3 = [s.pins.dir.data, 0xFF, 0xFF, 0xFF, 0xFF, 0] ∧
    (((run .memWrite 3).drop 1).take 4).map (fun p => p.level.data) = List.replicate 4 v ∧
    strobes .ioRead 4 = [[], [], [.iorq, .rd], [.iorq, .rd], [.iorq, .rd], [.iorq, .rd], [.iorq, .rd], []] ∧
    address .ioRead 4 = List.replicate 8 a ∧ driven .ioRead 4 = List.replicate 8 0 ∧
    strobes .ioWrite 4 = [[], [], [.iorq, .wr], [.iorq, .wr], [.iorq, .wr], [.iorq, .wr], [.iorq, .wr], []] ∧
    address .ioWrite 4 = List.replicate 8 a ∧ driven .ioWrite 4 = [s.pins.dir.data, 0xFF, 0xFF, 0xFF, 0xFF, 0xFF, 0xFF, 0] ∧
    (((run .ioWrite 4).drop 1).take 6).map (fun p => p.level.data) = List.replicate 6 v ∧
    strobes .intAck 6 = [[.m1], [.m1], [.m1], [.m1], [.m1], [.m1, .iorq], [.m1, .iorq], [.m1, .iorq], [.rfsh], [.mreq, .rfsh],
      [.mreq, .rfsh], []] ∧
    address .intAck 6 = List.replicate 8 pc ++ List.replicate 4 ir ∧ driven .intAck 6 = List.replicate 12 0

/-- Under any layout that names every pin once, packing a pin vector into a raw word and unpacking it gives the vector back (R8). -/
def Obligations.PinLayoutRoundTrip : Prop :=
  ∀ (lay : PinLayout) (v : PinVec), lay.valid = true → lay.unpack (lay.pack v) = v
end

