-- ==== Sys2Proof/Laws/Flags.lean ====
section
/-! SUPPORT. The flag byte and its eight flags, and the halves of a word. -/

namespace Sys2Proof.Machine

@[simp] theorem flagS_toByte (f : Flags) : flagS f.toByte = f.s := by cases f with | mk a b c d e g h i => revert a b c d e g h i; decide
@[simp] theorem flagZ_toByte (f : Flags) : flagZ f.toByte = f.z := by cases f with | mk a b c d e g h i => revert a b c d e g h i; decide
@[simp] theorem flag5_toByte (f : Flags) : flag5 f.toByte = f.y := by cases f with | mk a b c d e g h i => revert a b c d e g h i; decide
@[simp] theorem flagH_toByte (f : Flags) : flagH f.toByte = f.h := by cases f with | mk a b c d e g h i => revert a b c d e g h i; decide
@[simp] theorem flag3_toByte (f : Flags) : flag3 f.toByte = f.x := by cases f with | mk a b c d e g h i => revert a b c d e g h i; decide
@[simp] theorem flagPV_toByte (f : Flags) : flagPV f.toByte = f.pv := by cases f with | mk a b c d e g h i => revert a b c d e g h i; decide
@[simp] theorem flagN_toByte (f : Flags) : flagN f.toByte = f.n := by cases f with | mk a b c d e g h i => revert a b c d e g h i; decide
@[simp] theorem flagC_toByte (f : Flags) : flagC f.toByte = f.c := by cases f with | mk a b c d e g h i => revert a b c d e g h i; decide

@[simp] theorem Flags.ofByte_toByte (f : Flags) : Flags.ofByte f.toByte = f := by
  cases f; simp [Flags.ofByte]

@[simp] theorem Flags.toByte_ofByte (v : Byte) : (Flags.ofByte v).toByte = v := by
  revert v; decide

@[simp] theorem hi8_mk16 (a b : Byte) : hi8 (mk16 a b) = a := by
  unfold hi8 mk16; ext i hi; simp; grind

@[simp] theorem lo8_mk16 (a b : Byte) : lo8 (mk16 a b) = b := by
  unfold lo8 mk16; ext i hi; simp; grind

@[simp] theorem mk16_hi8_lo8 (w : Word) : mk16 (hi8 w) (lo8 w) = w := by
  unfold mk16 hi8 lo8; ext i hi; simp; grind

end Sys2Proof.Machine
end

