-- ==== Sys2Proof/Laws/Memory.lean ====
section
/-! SUPPORT. The laws of memory: reads after writes, the canonical form, and that equal reads mean equal memories. -/

namespace Sys2Proof.Machine

/-- A store leaves every other address alone; the canonical form is not needed. -/
theorem Memory.read_write_other (m : Memory) (a b : Nat) (v : Byte) (h : b ≠ a) : (m.write a v).read b = m.read b := by
  induction m with
  | nil => unfold Memory.write; split <;> simp [Memory.read, Ne.symm h]
  | cons c rest ih =>
    obtain ⟨k, w⟩ := c
    unfold Memory.write
    by_cases h1 : a < k
    · by_cases h2 : v = unlistedByte <;> simp [h1, h2, Memory.read, Ne.symm h]
    · by_cases h3 : a = k
      · subst h3
        by_cases h2 : v = unlistedByte <;> simp [h2, Memory.read, Ne.symm h]
      · simp [h1, h3, Memory.read, ih]

/-- An address below every cell reads as unlisted. -/
theorem Memory.read_below (m : Memory) (lo a : Nat) (hm : Memory.wfFrom lo m = true) (h : a < lo) : m.read a = unlistedByte := by
  induction m generalizing lo with
  | nil => rfl
  | cons c rest ih =>
    obtain ⟨k, w⟩ := c
    simp only [Memory.wfFrom, Bool.and_eq_true, decide_eq_true_eq] at hm
    obtain ⟨⟨⟨h1, h2⟩, h3⟩, h4⟩ := hm
    have hk : k ≠ a := by omega
    simp only [Memory.read, hk, if_false]
    exact ih (k + 1) h4 (by omega)

/-- A read after a store to the same address gives the byte stored. -/
theorem Memory.read_write_same_from (m : Memory) (lo a : Nat) (v : Byte) (hm : Memory.wfFrom lo m = true) :
    (m.write a v).read a = v := by
  induction m generalizing lo with
  | nil => unfold Memory.write; split <;> simp_all [Memory.read]
  | cons c rest ih =>
    obtain ⟨k, w⟩ := c
    simp only [Memory.wfFrom, Bool.and_eq_true, decide_eq_true_eq] at hm
    obtain ⟨⟨⟨h1, h2⟩, h3⟩, h4⟩ := hm
    unfold Memory.write
    by_cases ha : a < k
    · by_cases hv : v = unlistedByte
      · have hk : k ≠ a := by omega
        simp only [ha, hv, if_true, Memory.read, hk, if_false]
        exact Memory.read_below rest (k + 1) a h4 (by omega)
      · simp [ha, hv, Memory.read]
    · by_cases hk : a = k
      · subst hk
        by_cases hv : v = unlistedByte
        · simp only [hv, lt_irrefl, if_true, if_false]
          exact Memory.read_below rest (a + 1) a h4 (by omega)
        · simp [hv, Memory.read]
      · simp only [ha, hk, if_false, Memory.read, Ne.symm hk]
        exact ih (k + 1) h4

/-- A read after a store to the same address, in a canonical memory. -/
theorem Memory.read_write_same (m : Memory) (a : Nat) (v : Byte) (hm : m.wf = true) : (m.write a v).read a = v :=
  Memory.read_write_same_from m 0 a v hm

/-- A lower bound may be weakened. -/
theorem Memory.wfFrom_mono (m : Memory) (lo lo2 : Nat) (h : lo2 ≤ lo) (hm : Memory.wfFrom lo m = true) : Memory.wfFrom lo2 m = true := by
  cases m with
  | nil => rfl
  | cons c rest =>
    obtain ⟨k, w⟩ := c
    simp only [Memory.wfFrom, Bool.and_eq_true, decide_eq_true_eq] at hm ⊢
    exact ⟨⟨⟨by omega, hm.1.1.2⟩, hm.1.2⟩, hm.2⟩

/-- A store keeps the canonical form. -/
theorem Memory.write_wfFrom (m : Memory) (lo a : Nat) (v : Byte) (hm : Memory.wfFrom lo m = true) (h1 : lo ≤ a) (h2 : a < 65536) :
    Memory.wfFrom lo (m.write a v) = true := by
  induction m generalizing lo with
  | nil => unfold Memory.write; split <;> simp_all [Memory.wfFrom]
  | cons c rest ih =>
    obtain ⟨k, w⟩ := c
    have hm2 := hm
    simp only [Memory.wfFrom, Bool.and_eq_true, decide_eq_true_eq] at hm
    obtain ⟨⟨⟨h3, h4⟩, h5⟩, h6⟩ := hm
    unfold Memory.write
    by_cases ha : a < k
    · by_cases hv : v = unlistedByte
      · simpa [ha, hv] using hm2
      · simp only [ha, hv, if_true, if_false, Memory.wfFrom, Bool.and_eq_true, decide_eq_true_eq]
        exact ⟨⟨⟨h1, h2⟩, by simpa using hv⟩, ⟨⟨by omega, h4⟩, h5⟩, h6⟩
    · by_cases hk : a = k
      · subst hk
        by_cases hv : v = unlistedByte
        · simpa [hv] using Memory.wfFrom_mono rest (a + 1) lo (by omega) h6
        · simp only [hv, lt_irrefl, if_true, if_false, Memory.wfFrom, Bool.and_eq_true, decide_eq_true_eq]
          exact ⟨⟨⟨h1, h2⟩, by simpa using hv⟩, h6⟩
      · simp only [ha, hk, if_false, Memory.wfFrom, Bool.and_eq_true, decide_eq_true_eq]
        exact ⟨⟨⟨h3, h4⟩, h5⟩, ih (k + 1) h6 (by omega)⟩

/-- A store at a 16-bit address keeps the canonical form. -/
theorem Memory.write_wf (m : Memory) (a : Word) (v : Byte) (hm : m.wf = true) : (m.write a.toNat v).wf = true :=
  Memory.write_wfFrom m 0 a.toNat v hm (Nat.zero_le _) a.isLt

/-- Stores at rising addresses keep the canonical form. -/
theorem Memory.writeList_wf (vs : List Byte) (m : Memory) (a : Word) (hm : m.wf = true) : (m.writeList a vs).wf = true := by
  induction vs generalizing m a with
  | nil => exact hm
  | cons v vs ih => exact ih _ _ (Memory.write_wf m a v hm)

/-- The memory after reset is canonical. -/
theorem Memory.reset_wf : State.reset.mem.wf = true := by decide

/-- Equal reads mean equal canonical memories. -/
theorem Memory.eq_of_read_from (m n : Memory) (lo : Nat) (hm : Memory.wfFrom lo m = true) (hn : Memory.wfFrom lo n = true)
    (h : ∀ a, m.read a = n.read a) : m = n := by
  induction m generalizing n lo with
  | nil =>
    cases n with
    | nil => rfl
    | cons c rest =>
      obtain ⟨k, w⟩ := c
      simp only [Memory.wfFrom, Bool.and_eq_true, decide_eq_true_eq, bne_iff_ne] at hn
      have := h k
      simp [Memory.read] at this
      exact absurd this.symm hn.1.2
  | cons c rest ih =>
    obtain ⟨k, w⟩ := c
    cases n with
    | nil =>
      simp only [Memory.wfFrom, Bool.and_eq_true, decide_eq_true_eq, bne_iff_ne] at hm
      have := h k
      simp [Memory.read] at this
      exact absurd this hm.1.2
    | cons c2 rest2 =>
      obtain ⟨k2, w2⟩ := c2
      simp only [Memory.wfFrom, Bool.and_eq_true, decide_eq_true_eq, bne_iff_ne] at hm hn
      obtain ⟨⟨⟨hm1, hm2⟩, hm3⟩, hm4⟩ := hm
      obtain ⟨⟨⟨hn1, hn2⟩, hn3⟩, hn4⟩ := hn
      have hk : k = k2 := by
        rcases Nat.lt_trichotomy k k2 with hlt | heq | hgt
        · have := h k
          rw [show Memory.read ((k2, w2) :: rest2) k = unlistedByte by
            simp only [Memory.read, show k2 ≠ k by omega, if_false]
            exact Memory.read_below rest2 (k2 + 1) k hn4 (by omega)] at this
          simp [Memory.read] at this
          exact absurd this hm3
        · exact heq
        · have := h k2
          rw [show Memory.read ((k, w) :: rest) k2 = unlistedByte by
            simp only [Memory.read, show k ≠ k2 by omega, if_false]
            exact Memory.read_below rest (k + 1) k2 hm4 (by omega)] at this
          simp [Memory.read] at this
          exact absurd this.symm hn3
      subst hk
      have hw : w = w2 := by simpa [Memory.read] using h k
      subst hw
      rw [ih rest2 (k + 1) hm4 hn4]
      intro a
      by_cases ha : k = a
      · subst ha
        rw [Memory.read_below rest (k + 1) k hm4 (by omega), Memory.read_below rest2 (k + 1) k hn4 (by omega)]
      · simpa [Memory.read, ha] using h a

end Sys2Proof.Machine
end

