-- ==== Sys2Proof/Laws/Operands.lean ====
section
/-! SUPPORT. Reading an operand after writing one. -/

namespace Sys2Proof.Machine

@[simp] theorem Regs.bc_setBc (r : Regs) (w : Word) : (r.setBc w).bc = w := by simp [Regs.setBc, Regs.bc]
@[simp] theorem Regs.de_setDe (r : Regs) (w : Word) : (r.setDe w).de = w := by simp [Regs.setDe, Regs.de]
@[simp] theorem Regs.hl_setHl (r : Regs) (w : Word) : (r.setHl w).hl = w := by simp [Regs.setHl, Regs.hl]
@[simp] theorem Regs.af_setAf (r : Regs) (w : Word) : (r.setAf w).af = w := by simp [Regs.setAf, Regs.af]

/-- A pair written reads back; the other pairs are as before (R10). -/
theorem Regs.getRp_setRp (r : Regs) (p p2 : RP) (w : Word) : (r.setRp p w).getRp p2 = if p2 = p then w else r.getRp p2 := by
  cases p <;> cases p2 <;> simp [Regs.setRp, Regs.getRp] <;> simp [Regs.setBc, Regs.setDe, Regs.setHl, Regs.bc, Regs.de, Regs.hl]

/-- An 8-bit register written reads back; the others are as before. -/
theorem Regs.getR8_setR8 (r : Regs) (k k2 : R8) (v : Byte) : (r.setR8 k v).getR8 k2 = if k2 = k then v else r.getR8 k2 := by
  cases k <;> cases k2 <;> simp [Regs.setR8, Regs.getR8]

/-- An index register written reads back; the other is as before. -/
theorem Regs.getXy_setXy (r : Regs) (x x2 : XY) (w : Word) : (r.setXy x w).getXy x2 = if x2 = x then w else r.getXy x2 := by
  cases x <;> cases x2 <;> simp [Regs.setXy, Regs.getXy]

/-- A half written reads back; the other half of the register is as before (R10, R22). -/
theorem Regs.getHalf_setHalf (r : Regs) (x : XY) (k k2 : Half) (v : Byte) :
    (r.setHalf x k v).getHalf x k2 = if k2 = k then v else r.getHalf x k2 := by
  cases k <;> cases k2 <;> simp [Regs.setHalf, Regs.getHalf, Regs.getXy_setXy]

end Sys2Proof.Machine
end

