-- ==== Sys2Proof/Laws/State.lean ====
section
/-! SUPPORT. One lemma per field per update of the state, so that no proof unfolds a record update. -/

namespace Sys2Proof.Machine

/-! ### `State.setRegs` -/

@[simp] theorem State.setRegs_regs (s : State) (r : Regs) : (s.setRegs r).regs = r := rfl
@[simp] theorem State.setRegs_nmiPending (s : State) (r : Regs) : (s.setRegs r).nmiPending = s.nmiPending := rfl
@[simp] theorem State.setRegs_intLatch (s : State) (r : Regs) : (s.setRegs r).intLatch = s.intLatch := rfl
@[simp] theorem State.setRegs_skipInt (s : State) (r : Regs) : (s.setRegs r).skipInt = s.skipInt := rfl
@[simp] theorem State.setRegs_skipNmi (s : State) (r : Regs) : (s.setRegs r).skipNmi = s.skipNmi := rfl
@[simp] theorem State.setRegs_dec (s : State) (r : Regs) : (s.setRegs r).dec = s.dec := rfl
@[simp] theorem State.setRegs_mode (s : State) (r : Regs) : (s.setRegs r).mode = s.mode := rfl
@[simp] theorem State.setRegs_clk (s : State) (r : Regs) : (s.setRegs r).clk = s.clk := rfl
@[simp] theorem State.setRegs_cycle (s : State) (r : Regs) : (s.setRegs r).cycle = s.cycle := rfl
@[simp] theorem State.setRegs_pins (s : State) (r : Regs) : (s.setRegs r).pins = s.pins := rfl
@[simp] theorem State.setRegs_flight (s : State) (r : Regs) : (s.setRegs r).flight = s.flight := rfl
@[simp] theorem State.setRegs_mem (s : State) (r : Regs) : (s.setRegs r).mem = s.mem := rfl
@[simp] theorem State.setRegs_dataIn (s : State) (r : Regs) : (s.setRegs r).dataIn = s.dataIn := rfl
@[simp] theorem State.setRegs_portIn (s : State) (r : Regs) : (s.setRegs r).portIn = s.portIn := rfl
@[simp] theorem State.setRegs_portOut (s : State) (r : Regs) : (s.setRegs r).portOut = s.portOut := rfl
@[simp] theorem State.setRegs_intaIn (s : State) (r : Regs) : (s.setRegs r).intaIn = s.intaIn := rfl
@[simp] theorem State.setRegs_freeCtr (s : State) (r : Regs) : (s.setRegs r).freeCtr = s.freeCtr := rfl
@[simp] theorem State.setRegs_events (s : State) (r : Regs) : (s.setRegs r).events = s.events := rfl

/-! ### `State.record` -/

@[simp] theorem State.record_regs (s : State) (e : BusEvent) : (s.record e).regs = s.regs := rfl
@[simp] theorem State.record_nmiPending (s : State) (e : BusEvent) : (s.record e).nmiPending = s.nmiPending := rfl
@[simp] theorem State.record_intLatch (s : State) (e : BusEvent) : (s.record e).intLatch = s.intLatch := rfl
@[simp] theorem State.record_skipInt (s : State) (e : BusEvent) : (s.record e).skipInt = s.skipInt := rfl
@[simp] theorem State.record_skipNmi (s : State) (e : BusEvent) : (s.record e).skipNmi = s.skipNmi := rfl
@[simp] theorem State.record_dec (s : State) (e : BusEvent) : (s.record e).dec = s.dec := rfl
@[simp] theorem State.record_mode (s : State) (e : BusEvent) : (s.record e).mode = s.mode := rfl
@[simp] theorem State.record_clk (s : State) (e : BusEvent) : (s.record e).clk = s.clk := rfl
@[simp] theorem State.record_cycle (s : State) (e : BusEvent) : (s.record e).cycle = s.cycle := rfl
@[simp] theorem State.record_pins (s : State) (e : BusEvent) : (s.record e).pins = s.pins := rfl
@[simp] theorem State.record_flight (s : State) (e : BusEvent) : (s.record e).flight = s.flight := rfl
@[simp] theorem State.record_mem (s : State) (e : BusEvent) : (s.record e).mem = s.mem := rfl
@[simp] theorem State.record_dataIn (s : State) (e : BusEvent) : (s.record e).dataIn = s.dataIn := rfl
@[simp] theorem State.record_portIn (s : State) (e : BusEvent) : (s.record e).portIn = s.portIn := rfl
@[simp] theorem State.record_portOut (s : State) (e : BusEvent) : (s.record e).portOut = s.portOut := rfl
@[simp] theorem State.record_intaIn (s : State) (e : BusEvent) : (s.record e).intaIn = s.intaIn := rfl
@[simp] theorem State.record_freeCtr (s : State) (e : BusEvent) : (s.record e).freeCtr = s.freeCtr := rfl
@[simp] theorem State.record_events (s : State) (e : BusEvent) : (s.record e).events = e :: s.events := rfl

/-! ### `State.fill` -/

@[simp] theorem State.fill_regs (s : State) (n : Nat) : (s.fill n).regs = s.regs := rfl
@[simp] theorem State.fill_nmiPending (s : State) (n : Nat) : (s.fill n).nmiPending = s.nmiPending := rfl
@[simp] theorem State.fill_intLatch (s : State) (n : Nat) : (s.fill n).intLatch = s.intLatch := rfl
@[simp] theorem State.fill_skipInt (s : State) (n : Nat) : (s.fill n).skipInt = s.skipInt := rfl
@[simp] theorem State.fill_skipNmi (s : State) (n : Nat) : (s.fill n).skipNmi = s.skipNmi := rfl
@[simp] theorem State.fill_dec (s : State) (n : Nat) : (s.fill n).dec = s.dec := rfl
@[simp] theorem State.fill_mode (s : State) (n : Nat) : (s.fill n).mode = s.mode := rfl
@[simp] theorem State.fill_clk (s : State) (n : Nat) : (s.fill n).clk = s.clk := rfl
@[simp] theorem State.fill_cycle (s : State) (n : Nat) : (s.fill n).cycle = s.cycle := rfl
@[simp] theorem State.fill_pins (s : State) (n : Nat) : (s.fill n).pins = s.pins := rfl
@[simp] theorem State.fill_flight (s : State) (n : Nat) : (s.fill n).flight = s.flight := rfl
@[simp] theorem State.fill_mem (s : State) (n : Nat) : (s.fill n).mem = s.mem := rfl
@[simp] theorem State.fill_dataIn (s : State) (n : Nat) : (s.fill n).dataIn = s.dataIn := rfl
@[simp] theorem State.fill_portIn (s : State) (n : Nat) : (s.fill n).portIn = s.portIn := rfl
@[simp] theorem State.fill_portOut (s : State) (n : Nat) : (s.fill n).portOut = s.portOut := rfl
@[simp] theorem State.fill_intaIn (s : State) (n : Nat) : (s.fill n).intaIn = s.intaIn := rfl
@[simp] theorem State.fill_freeCtr (s : State) (n : Nat) : (s.fill n).freeCtr = s.freeCtr := rfl
@[simp] theorem State.fill_events (s : State) (n : Nat) : (s.fill n).events = .filler n :: s.events := rfl

/-! ### `State.writeMem` -/

@[simp] theorem State.writeMem_regs (s : State) (a : Word) (v : Byte) : (s.writeMem a v).regs = s.regs := rfl
@[simp] theorem State.writeMem_nmiPending (s : State) (a : Word) (v : Byte) : (s.writeMem a v).nmiPending = s.nmiPending := rfl
@[simp] theorem State.writeMem_intLatch (s : State) (a : Word) (v : Byte) : (s.writeMem a v).intLatch = s.intLatch := rfl
@[simp] theorem State.writeMem_skipInt (s : State) (a : Word) (v : Byte) : (s.writeMem a v).skipInt = s.skipInt := rfl
@[simp] theorem State.writeMem_skipNmi (s : State) (a : Word) (v : Byte) : (s.writeMem a v).skipNmi = s.skipNmi := rfl
@[simp] theorem State.writeMem_dec (s : State) (a : Word) (v : Byte) : (s.writeMem a v).dec = s.dec := rfl
@[simp] theorem State.writeMem_mode (s : State) (a : Word) (v : Byte) : (s.writeMem a v).mode = s.mode := rfl
@[simp] theorem State.writeMem_clk (s : State) (a : Word) (v : Byte) : (s.writeMem a v).clk = s.clk := rfl
@[simp] theorem State.writeMem_cycle (s : State) (a : Word) (v : Byte) : (s.writeMem a v).cycle = s.cycle := rfl
@[simp] theorem State.writeMem_pins (s : State) (a : Word) (v : Byte) : (s.writeMem a v).pins = s.pins := rfl
@[simp] theorem State.writeMem_flight (s : State) (a : Word) (v : Byte) : (s.writeMem a v).flight = s.flight := rfl
@[simp] theorem State.writeMem_mem (s : State) (a : Word) (v : Byte) : (s.writeMem a v).mem = s.mem.write a.toNat v := rfl
@[simp] theorem State.writeMem_dataIn (s : State) (a : Word) (v : Byte) : (s.writeMem a v).dataIn = s.dataIn := rfl
@[simp] theorem State.writeMem_portIn (s : State) (a : Word) (v : Byte) : (s.writeMem a v).portIn = s.portIn := rfl
@[simp] theorem State.writeMem_portOut (s : State) (a : Word) (v : Byte) : (s.writeMem a v).portOut = s.portOut := rfl
@[simp] theorem State.writeMem_intaIn (s : State) (a : Word) (v : Byte) : (s.writeMem a v).intaIn = s.intaIn := rfl
@[simp] theorem State.writeMem_freeCtr (s : State) (a : Word) (v : Byte) : (s.writeMem a v).freeCtr = s.freeCtr := rfl
@[simp] theorem State.writeMem_events (s : State) (a : Word) (v : Byte) : (s.writeMem a v).events = .memWrite a v :: s.events := rfl

/-! ### `State.writePort` -/

@[simp] theorem State.writePort_regs (s : State) (a : Word) (v : Byte) : (s.writePort a v).regs = s.regs := rfl
@[simp] theorem State.writePort_nmiPending (s : State) (a : Word) (v : Byte) : (s.writePort a v).nmiPending = s.nmiPending := rfl
@[simp] theorem State.writePort_intLatch (s : State) (a : Word) (v : Byte) : (s.writePort a v).intLatch = s.intLatch := rfl
@[simp] theorem State.writePort_skipInt (s : State) (a : Word) (v : Byte) : (s.writePort a v).skipInt = s.skipInt := rfl
@[simp] theorem State.writePort_skipNmi (s : State) (a : Word) (v : Byte) : (s.writePort a v).skipNmi = s.skipNmi := rfl
@[simp] theorem State.writePort_dec (s : State) (a : Word) (v : Byte) : (s.writePort a v).dec = s.dec := rfl
@[simp] theorem State.writePort_mode (s : State) (a : Word) (v : Byte) : (s.writePort a v).mode = s.mode := rfl
@[simp] theorem State.writePort_clk (s : State) (a : Word) (v : Byte) : (s.writePort a v).clk = s.clk := rfl
@[simp] theorem State.writePort_cycle (s : State) (a : Word) (v : Byte) : (s.writePort a v).cycle = s.cycle := rfl
@[simp] theorem State.writePort_pins (s : State) (a : Word) (v : Byte) : (s.writePort a v).pins = s.pins := rfl
@[simp] theorem State.writePort_flight (s : State) (a : Word) (v : Byte) : (s.writePort a v).flight = s.flight := rfl
@[simp] theorem State.writePort_mem (s : State) (a : Word) (v : Byte) : (s.writePort a v).mem = s.mem := rfl
@[simp] theorem State.writePort_dataIn (s : State) (a : Word) (v : Byte) : (s.writePort a v).dataIn = s.dataIn := rfl
@[simp] theorem State.writePort_portIn (s : State) (a : Word) (v : Byte) : (s.writePort a v).portIn = s.portIn := rfl
@[simp] theorem State.writePort_portOut (s : State) (a : Word) (v : Byte) : (s.writePort a v).portOut = (a.toNat, v) :: s.portOut := rfl
@[simp] theorem State.writePort_intaIn (s : State) (a : Word) (v : Byte) : (s.writePort a v).intaIn = s.intaIn := rfl
@[simp] theorem State.writePort_freeCtr (s : State) (a : Word) (v : Byte) : (s.writePort a v).freeCtr = s.freeCtr := rfl
@[simp] theorem State.writePort_events (s : State) (a : Word) (v : Byte) : (s.writePort a v).events = .ioWrite a v :: s.events := rfl

/-! ### `State.setWz` -/

@[simp] theorem State.setWz_regs (s : State) (w : Word) : (s.setWz w).regs = { s.regs with wz := w } := rfl
@[simp] theorem State.setWz_nmiPending (s : State) (w : Word) : (s.setWz w).nmiPending = s.nmiPending := rfl
@[simp] theorem State.setWz_intLatch (s : State) (w : Word) : (s.setWz w).intLatch = s.intLatch := rfl
@[simp] theorem State.setWz_skipInt (s : State) (w : Word) : (s.setWz w).skipInt = s.skipInt := rfl
@[simp] theorem State.setWz_skipNmi (s : State) (w : Word) : (s.setWz w).skipNmi = s.skipNmi := rfl
@[simp] theorem State.setWz_dec (s : State) (w : Word) : (s.setWz w).dec = s.dec := rfl
@[simp] theorem State.setWz_mode (s : State) (w : Word) : (s.setWz w).mode = s.mode := rfl
@[simp] theorem State.setWz_clk (s : State) (w : Word) : (s.setWz w).clk = s.clk := rfl
@[simp] theorem State.setWz_cycle (s : State) (w : Word) : (s.setWz w).cycle = s.cycle := rfl
@[simp] theorem State.setWz_pins (s : State) (w : Word) : (s.setWz w).pins = s.pins := rfl
@[simp] theorem State.setWz_flight (s : State) (w : Word) : (s.setWz w).flight = s.flight := rfl
@[simp] theorem State.setWz_mem (s : State) (w : Word) : (s.setWz w).mem = s.mem := rfl
@[simp] theorem State.setWz_dataIn (s : State) (w : Word) : (s.setWz w).dataIn = s.dataIn := rfl
@[simp] theorem State.setWz_portIn (s : State) (w : Word) : (s.setWz w).portIn = s.portIn := rfl
@[simp] theorem State.setWz_portOut (s : State) (w : Word) : (s.setWz w).portOut = s.portOut := rfl
@[simp] theorem State.setWz_intaIn (s : State) (w : Word) : (s.setWz w).intaIn = s.intaIn := rfl
@[simp] theorem State.setWz_freeCtr (s : State) (w : Word) : (s.setWz w).freeCtr = s.freeCtr := rfl
@[simp] theorem State.setWz_events (s : State) (w : Word) : (s.setWz w).events = s.events := rfl

/-! ### `State.setPc` -/

@[simp] theorem State.setPc_regs (s : State) (w : Word) : (s.setPc w).regs = { s.regs with pc := w } := rfl
@[simp] theorem State.setPc_nmiPending (s : State) (w : Word) : (s.setPc w).nmiPending = s.nmiPending := rfl
@[simp] theorem State.setPc_intLatch (s : State) (w : Word) : (s.setPc w).intLatch = s.intLatch := rfl
@[simp] theorem State.setPc_skipInt (s : State) (w : Word) : (s.setPc w).skipInt = s.skipInt := rfl
@[simp] theorem State.setPc_skipNmi (s : State) (w : Word) : (s.setPc w).skipNmi = s.skipNmi := rfl
@[simp] theorem State.setPc_dec (s : State) (w : Word) : (s.setPc w).dec = s.dec := rfl
@[simp] theorem State.setPc_mode (s : State) (w : Word) : (s.setPc w).mode = s.mode := rfl
@[simp] theorem State.setPc_clk (s : State) (w : Word) : (s.setPc w).clk = s.clk := rfl
@[simp] theorem State.setPc_cycle (s : State) (w : Word) : (s.setPc w).cycle = s.cycle := rfl
@[simp] theorem State.setPc_pins (s : State) (w : Word) : (s.setPc w).pins = s.pins := rfl
@[simp] theorem State.setPc_flight (s : State) (w : Word) : (s.setPc w).flight = s.flight := rfl
@[simp] theorem State.setPc_mem (s : State) (w : Word) : (s.setPc w).mem = s.mem := rfl
@[simp] theorem State.setPc_dataIn (s : State) (w : Word) : (s.setPc w).dataIn = s.dataIn := rfl
@[simp] theorem State.setPc_portIn (s : State) (w : Word) : (s.setPc w).portIn = s.portIn := rfl
@[simp] theorem State.setPc_portOut (s : State) (w : Word) : (s.setPc w).portOut = s.portOut := rfl
@[simp] theorem State.setPc_intaIn (s : State) (w : Word) : (s.setPc w).intaIn = s.intaIn := rfl
@[simp] theorem State.setPc_freeCtr (s : State) (w : Word) : (s.setPc w).freeCtr = s.freeCtr := rfl
@[simp] theorem State.setPc_events (s : State) (w : Word) : (s.setPc w).events = s.events := rfl

/-! ### `State.jump` -/

@[simp] theorem State.jump_regs (s : State) (w : Word) : (s.jump w).regs = { s.regs with pc := w, wz := w } := rfl
@[simp] theorem State.jump_nmiPending (s : State) (w : Word) : (s.jump w).nmiPending = s.nmiPending := rfl
@[simp] theorem State.jump_intLatch (s : State) (w : Word) : (s.jump w).intLatch = s.intLatch := rfl
@[simp] theorem State.jump_skipInt (s : State) (w : Word) : (s.jump w).skipInt = s.skipInt := rfl
@[simp] theorem State.jump_skipNmi (s : State) (w : Word) : (s.jump w).skipNmi = s.skipNmi := rfl
@[simp] theorem State.jump_dec (s : State) (w : Word) : (s.jump w).dec = s.dec := rfl
@[simp] theorem State.jump_mode (s : State) (w : Word) : (s.jump w).mode = s.mode := rfl
@[simp] theorem State.jump_clk (s : State) (w : Word) : (s.jump w).clk = s.clk := rfl
@[simp] theorem State.jump_cycle (s : State) (w : Word) : (s.jump w).cycle = s.cycle := rfl
@[simp] theorem State.jump_pins (s : State) (w : Word) : (s.jump w).pins = s.pins := rfl
@[simp] theorem State.jump_flight (s : State) (w : Word) : (s.jump w).flight = s.flight := rfl
@[simp] theorem State.jump_mem (s : State) (w : Word) : (s.jump w).mem = s.mem := rfl
@[simp] theorem State.jump_dataIn (s : State) (w : Word) : (s.jump w).dataIn = s.dataIn := rfl
@[simp] theorem State.jump_portIn (s : State) (w : Word) : (s.jump w).portIn = s.portIn := rfl
@[simp] theorem State.jump_portOut (s : State) (w : Word) : (s.jump w).portOut = s.portOut := rfl
@[simp] theorem State.jump_intaIn (s : State) (w : Word) : (s.jump w).intaIn = s.intaIn := rfl
@[simp] theorem State.jump_freeCtr (s : State) (w : Word) : (s.jump w).freeCtr = s.freeCtr := rfl
@[simp] theorem State.jump_events (s : State) (w : Word) : (s.jump w).events = s.events := rfl

/-! ### `State.write16` -/

@[simp] theorem State.write16_regs (s : State) (a v : Word) : (s.write16 a v).regs = s.regs := rfl
@[simp] theorem State.write16_nmiPending (s : State) (a v : Word) : (s.write16 a v).nmiPending = s.nmiPending := rfl
@[simp] theorem State.write16_intLatch (s : State) (a v : Word) : (s.write16 a v).intLatch = s.intLatch := rfl
@[simp] theorem State.write16_skipInt (s : State) (a v : Word) : (s.write16 a v).skipInt = s.skipInt := rfl
@[simp] theorem State.write16_skipNmi (s : State) (a v : Word) : (s.write16 a v).skipNmi = s.skipNmi := rfl
@[simp] theorem State.write16_dec (s : State) (a v : Word) : (s.write16 a v).dec = s.dec := rfl
@[simp] theorem State.write16_mode (s : State) (a v : Word) : (s.write16 a v).mode = s.mode := rfl
@[simp] theorem State.write16_clk (s : State) (a v : Word) : (s.write16 a v).clk = s.clk := rfl
@[simp] theorem State.write16_cycle (s : State) (a v : Word) : (s.write16 a v).cycle = s.cycle := rfl
@[simp] theorem State.write16_pins (s : State) (a v : Word) : (s.write16 a v).pins = s.pins := rfl
@[simp] theorem State.write16_flight (s : State) (a v : Word) : (s.write16 a v).flight = s.flight := rfl
@[simp] theorem State.write16_mem (s : State) (a v : Word) : (s.write16 a v).mem = (s.mem.write a.toNat (lo8 v)).write (a + 1).toNat (hi8 v) := rfl
@[simp] theorem State.write16_dataIn (s : State) (a v : Word) : (s.write16 a v).dataIn = s.dataIn := rfl
@[simp] theorem State.write16_portIn (s : State) (a v : Word) : (s.write16 a v).portIn = s.portIn := rfl
@[simp] theorem State.write16_portOut (s : State) (a v : Word) : (s.write16 a v).portOut = s.portOut := rfl
@[simp] theorem State.write16_intaIn (s : State) (a v : Word) : (s.write16 a v).intaIn = s.intaIn := rfl
@[simp] theorem State.write16_freeCtr (s : State) (a v : Word) : (s.write16 a v).freeCtr = s.freeCtr := rfl
@[simp] theorem State.write16_events (s : State) (a v : Word) : (s.write16 a v).events = .memWrite (a + 1) (hi8 v) :: .memWrite a (lo8 v) :: s.events := rfl

/-! ### `State.push` -/

@[simp] theorem State.push_regs (s : State) (v : Word) : (s.push v).regs = { s.regs with sp := s.regs.sp - 2 } := rfl
@[simp] theorem State.push_nmiPending (s : State) (v : Word) : (s.push v).nmiPending = s.nmiPending := rfl
@[simp] theorem State.push_intLatch (s : State) (v : Word) : (s.push v).intLatch = s.intLatch := rfl
@[simp] theorem State.push_skipInt (s : State) (v : Word) : (s.push v).skipInt = s.skipInt := rfl
@[simp] theorem State.push_skipNmi (s : State) (v : Word) : (s.push v).skipNmi = s.skipNmi := rfl
@[simp] theorem State.push_dec (s : State) (v : Word) : (s.push v).dec = s.dec := rfl
@[simp] theorem State.push_mode (s : State) (v : Word) : (s.push v).mode = s.mode := rfl
@[simp] theorem State.push_clk (s : State) (v : Word) : (s.push v).clk = s.clk := rfl
@[simp] theorem State.push_cycle (s : State) (v : Word) : (s.push v).cycle = s.cycle := rfl
@[simp] theorem State.push_pins (s : State) (v : Word) : (s.push v).pins = s.pins := rfl
@[simp] theorem State.push_flight (s : State) (v : Word) : (s.push v).flight = s.flight := rfl
@[simp] theorem State.push_mem (s : State) (v : Word) : (s.push v).mem = (s.mem.write (s.regs.sp - 1).toNat (hi8 v)).write (s.regs.sp - 2).toNat (lo8 v) := rfl
@[simp] theorem State.push_dataIn (s : State) (v : Word) : (s.push v).dataIn = s.dataIn := rfl
@[simp] theorem State.push_portIn (s : State) (v : Word) : (s.push v).portIn = s.portIn := rfl
@[simp] theorem State.push_portOut (s : State) (v : Word) : (s.push v).portOut = s.portOut := rfl
@[simp] theorem State.push_intaIn (s : State) (v : Word) : (s.push v).intaIn = s.intaIn := rfl
@[simp] theorem State.push_freeCtr (s : State) (v : Word) : (s.push v).freeCtr = s.freeCtr := rfl
@[simp] theorem State.push_events (s : State) (v : Word) : (s.push v).events = .memWrite (s.regs.sp - 2) (lo8 v) :: .memWrite (s.regs.sp - 1) (hi8 v) :: s.events := rfl

/-! ### `State.pushReturn` -/

@[simp] theorem State.pushReturn_regs (s : State) : (s.pushReturn).regs = { s.regs with sp := s.regs.sp - 2 } := rfl
@[simp] theorem State.pushReturn_nmiPending (s : State) : (s.pushReturn).nmiPending = s.nmiPending := rfl
@[simp] theorem State.pushReturn_intLatch (s : State) : (s.pushReturn).intLatch = s.intLatch := rfl
@[simp] theorem State.pushReturn_skipInt (s : State) : (s.pushReturn).skipInt = s.skipInt := rfl
@[simp] theorem State.pushReturn_skipNmi (s : State) : (s.pushReturn).skipNmi = s.skipNmi := rfl
@[simp] theorem State.pushReturn_dec (s : State) : (s.pushReturn).dec = s.dec := rfl
@[simp] theorem State.pushReturn_mode (s : State) : (s.pushReturn).mode = s.mode := rfl
@[simp] theorem State.pushReturn_clk (s : State) : (s.pushReturn).clk = s.clk := rfl
@[simp] theorem State.pushReturn_cycle (s : State) : (s.pushReturn).cycle = s.cycle := rfl
@[simp] theorem State.pushReturn_pins (s : State) : (s.pushReturn).pins = s.pins := rfl
@[simp] theorem State.pushReturn_flight (s : State) : (s.pushReturn).flight = s.flight := rfl
@[simp] theorem State.pushReturn_mem (s : State) : (s.pushReturn).mem = (s.mem.write (s.regs.sp - 1).toNat (hi8 s.regs.pc)).write (s.regs.sp - 2).toNat (lo8 s.regs.pc) := rfl
@[simp] theorem State.pushReturn_dataIn (s : State) : (s.pushReturn).dataIn = s.dataIn := rfl
@[simp] theorem State.pushReturn_portIn (s : State) : (s.pushReturn).portIn = s.portIn := rfl
@[simp] theorem State.pushReturn_portOut (s : State) : (s.pushReturn).portOut = s.portOut := rfl
@[simp] theorem State.pushReturn_intaIn (s : State) : (s.pushReturn).intaIn = s.intaIn := rfl
@[simp] theorem State.pushReturn_freeCtr (s : State) : (s.pushReturn).freeCtr = s.freeCtr := rfl
@[simp] theorem State.pushReturn_events (s : State) : (s.pushReturn).events = .memWrite (s.regs.sp - 2) (lo8 s.regs.pc) :: .memWrite (s.regs.sp - 1) (hi8 s.regs.pc) :: .filler 1 :: s.events := rfl

/-! ### `State.enterHandler` -/

@[simp] theorem State.enterHandler_regs (s : State) (w : Word) : (s.enterHandler w).regs = { s.regs with pc := w, wz := w, q := 0 } := rfl
@[simp] theorem State.enterHandler_nmiPending (s : State) (w : Word) : (s.enterHandler w).nmiPending = s.nmiPending := rfl
@[simp] theorem State.enterHandler_intLatch (s : State) (w : Word) : (s.enterHandler w).intLatch = s.intLatch := rfl
@[simp] theorem State.enterHandler_skipInt (s : State) (w : Word) : (s.enterHandler w).skipInt = s.skipInt := rfl
@[simp] theorem State.enterHandler_skipNmi (s : State) (w : Word) : (s.enterHandler w).skipNmi = s.skipNmi := rfl
@[simp] theorem State.enterHandler_dec (s : State) (w : Word) : (s.enterHandler w).dec = s.dec := rfl
@[simp] theorem State.enterHandler_mode (s : State) (w : Word) : (s.enterHandler w).mode = s.mode := rfl
@[simp] theorem State.enterHandler_clk (s : State) (w : Word) : (s.enterHandler w).clk = s.clk := rfl
@[simp] theorem State.enterHandler_cycle (s : State) (w : Word) : (s.enterHandler w).cycle = s.cycle := rfl
@[simp] theorem State.enterHandler_pins (s : State) (w : Word) : (s.enterHandler w).pins = s.pins := rfl
@[simp] theorem State.enterHandler_flight (s : State) (w : Word) : (s.enterHandler w).flight = s.flight := rfl
@[simp] theorem State.enterHandler_mem (s : State) (w : Word) : (s.enterHandler w).mem = s.mem := rfl
@[simp] theorem State.enterHandler_dataIn (s : State) (w : Word) : (s.enterHandler w).dataIn = s.dataIn := rfl
@[simp] theorem State.enterHandler_portIn (s : State) (w : Word) : (s.enterHandler w).portIn = s.portIn := rfl
@[simp] theorem State.enterHandler_portOut (s : State) (w : Word) : (s.enterHandler w).portOut = s.portOut := rfl
@[simp] theorem State.enterHandler_intaIn (s : State) (w : Word) : (s.enterHandler w).intaIn = s.intaIn := rfl
@[simp] theorem State.enterHandler_freeCtr (s : State) (w : Word) : (s.enterHandler w).freeCtr = s.freeCtr := rfl
@[simp] theorem State.enterHandler_events (s : State) (w : Word) : (s.enterHandler w).events = s.events := rfl

/-! ### `State.mapPins` -/

@[simp] theorem State.mapPins_regs (s : State) (g : PinBus → PinBus) : (s.mapPins g).regs = s.regs := rfl
@[simp] theorem State.mapPins_nmiPending (s : State) (g : PinBus → PinBus) : (s.mapPins g).nmiPending = s.nmiPending := rfl
@[simp] theorem State.mapPins_intLatch (s : State) (g : PinBus → PinBus) : (s.mapPins g).intLatch = s.intLatch := rfl
@[simp] theorem State.mapPins_skipInt (s : State) (g : PinBus → PinBus) : (s.mapPins g).skipInt = s.skipInt := rfl
@[simp] theorem State.mapPins_skipNmi (s : State) (g : PinBus → PinBus) : (s.mapPins g).skipNmi = s.skipNmi := rfl
@[simp] theorem State.mapPins_dec (s : State) (g : PinBus → PinBus) : (s.mapPins g).dec = s.dec := rfl
@[simp] theorem State.mapPins_mode (s : State) (g : PinBus → PinBus) : (s.mapPins g).mode = s.mode := rfl
@[simp] theorem State.mapPins_clk (s : State) (g : PinBus → PinBus) : (s.mapPins g).clk = s.clk := rfl
@[simp] theorem State.mapPins_cycle (s : State) (g : PinBus → PinBus) : (s.mapPins g).cycle = s.cycle := rfl
@[simp] theorem State.mapPins_pins (s : State) (g : PinBus → PinBus) : (s.mapPins g).pins = g s.pins := rfl
@[simp] theorem State.mapPins_flight (s : State) (g : PinBus → PinBus) : (s.mapPins g).flight = s.flight := rfl
@[simp] theorem State.mapPins_mem (s : State) (g : PinBus → PinBus) : (s.mapPins g).mem = s.mem := rfl
@[simp] theorem State.mapPins_dataIn (s : State) (g : PinBus → PinBus) : (s.mapPins g).dataIn = s.dataIn := rfl
@[simp] theorem State.mapPins_portIn (s : State) (g : PinBus → PinBus) : (s.mapPins g).portIn = s.portIn := rfl
@[simp] theorem State.mapPins_portOut (s : State) (g : PinBus → PinBus) : (s.mapPins g).portOut = s.portOut := rfl
@[simp] theorem State.mapPins_intaIn (s : State) (g : PinBus → PinBus) : (s.mapPins g).intaIn = s.intaIn := rfl
@[simp] theorem State.mapPins_freeCtr (s : State) (g : PinBus → PinBus) : (s.mapPins g).freeCtr = s.freeCtr := rfl
@[simp] theorem State.mapPins_events (s : State) (g : PinBus → PinBus) : (s.mapPins g).events = s.events := rfl

/-! ### `State.settlePins` -/

@[simp] theorem State.settlePins_regs (s : State) : (s.settlePins).regs = s.regs := rfl
@[simp] theorem State.settlePins_nmiPending (s : State) : (s.settlePins).nmiPending = s.nmiPending := rfl
@[simp] theorem State.settlePins_intLatch (s : State) : (s.settlePins).intLatch = s.intLatch := rfl
@[simp] theorem State.settlePins_skipInt (s : State) : (s.settlePins).skipInt = s.skipInt := rfl
@[simp] theorem State.settlePins_skipNmi (s : State) : (s.settlePins).skipNmi = s.skipNmi := rfl
@[simp] theorem State.settlePins_dec (s : State) : (s.settlePins).dec = s.dec := rfl
@[simp] theorem State.settlePins_mode (s : State) : (s.settlePins).mode = s.mode := rfl
@[simp] theorem State.settlePins_clk (s : State) : (s.settlePins).clk = s.clk := rfl
@[simp] theorem State.settlePins_cycle (s : State) : (s.settlePins).cycle = s.cycle := rfl
@[simp] theorem State.settlePins_pins (s : State) : (s.settlePins).pins = { s.pins with level := s.pins.level.afterAll s.events } := rfl
@[simp] theorem State.settlePins_flight (s : State) : (s.settlePins).flight = s.flight := rfl
@[simp] theorem State.settlePins_mem (s : State) : (s.settlePins).mem = s.mem := rfl
@[simp] theorem State.settlePins_dataIn (s : State) : (s.settlePins).dataIn = s.dataIn := rfl
@[simp] theorem State.settlePins_portIn (s : State) : (s.settlePins).portIn = s.portIn := rfl
@[simp] theorem State.settlePins_portOut (s : State) : (s.settlePins).portOut = s.portOut := rfl
@[simp] theorem State.settlePins_intaIn (s : State) : (s.settlePins).intaIn = s.intaIn := rfl
@[simp] theorem State.settlePins_freeCtr (s : State) : (s.settlePins).freeCtr = s.freeCtr := rfl
@[simp] theorem State.settlePins_events (s : State) : (s.settlePins).events = s.events := rfl

/-! ### `State.arm` -/

@[simp] theorem State.arm_regs (s : State) (e : Entry) (k : CycleKind) : (s.arm e k).regs = s.regs := rfl
@[simp] theorem State.arm_nmiPending (s : State) (e : Entry) (k : CycleKind) : (s.arm e k).nmiPending = s.nmiPending := rfl
@[simp] theorem State.arm_intLatch (s : State) (e : Entry) (k : CycleKind) : (s.arm e k).intLatch = s.intLatch := rfl
@[simp] theorem State.arm_skipInt (s : State) (e : Entry) (k : CycleKind) : (s.arm e k).skipInt = false := rfl
@[simp] theorem State.arm_skipNmi (s : State) (e : Entry) (k : CycleKind) : (s.arm e k).skipNmi = false := rfl
@[simp] theorem State.arm_dec (s : State) (e : Entry) (k : CycleKind) : (s.arm e k).dec = { s.dec with entry := e } := rfl
@[simp] theorem State.arm_mode (s : State) (e : Entry) (k : CycleKind) : (s.arm e k).mode = s.mode := rfl
@[simp] theorem State.arm_clk (s : State) (e : Entry) (k : CycleKind) : (s.arm e k).clk = s.clk := rfl
@[simp] theorem State.arm_cycle (s : State) (e : Entry) (k : CycleKind) : (s.arm e k).cycle = some (.armed k s.regs.pc 0 0) := rfl
@[simp] theorem State.arm_pins (s : State) (e : Entry) (k : CycleKind) : (s.arm e k).pins = s.pins := rfl
@[simp] theorem State.arm_flight (s : State) (e : Entry) (k : CycleKind) : (s.arm e k).flight = s.flight := rfl
@[simp] theorem State.arm_mem (s : State) (e : Entry) (k : CycleKind) : (s.arm e k).mem = s.mem := rfl
@[simp] theorem State.arm_dataIn (s : State) (e : Entry) (k : CycleKind) : (s.arm e k).dataIn = s.dataIn := rfl
@[simp] theorem State.arm_portIn (s : State) (e : Entry) (k : CycleKind) : (s.arm e k).portIn = s.portIn := rfl
@[simp] theorem State.arm_portOut (s : State) (e : Entry) (k : CycleKind) : (s.arm e k).portOut = s.portOut := rfl
@[simp] theorem State.arm_intaIn (s : State) (e : Entry) (k : CycleKind) : (s.arm e k).intaIn = s.intaIn := rfl
@[simp] theorem State.arm_freeCtr (s : State) (e : Entry) (k : CycleKind) : (s.arm e k).freeCtr = s.freeCtr := rfl
@[simp] theorem State.arm_events (s : State) (e : Entry) (k : CycleKind) : (s.arm e k).events = s.events := rfl

/-! ### `State.sampleInt` -/

@[simp] theorem State.sampleInt_regs (s : State) : (s.sampleInt).regs = s.regs := rfl
@[simp] theorem State.sampleInt_nmiPending (s : State) : (s.sampleInt).nmiPending = s.nmiPending := rfl
@[simp] theorem State.sampleInt_intLatch (s : State) : (s.sampleInt).intLatch = s.pins.level.int := rfl
@[simp] theorem State.sampleInt_skipInt (s : State) : (s.sampleInt).skipInt = s.skipInt := rfl
@[simp] theorem State.sampleInt_skipNmi (s : State) : (s.sampleInt).skipNmi = s.skipNmi := rfl
@[simp] theorem State.sampleInt_dec (s : State) : (s.sampleInt).dec = s.dec := rfl
@[simp] theorem State.sampleInt_mode (s : State) : (s.sampleInt).mode = s.mode := rfl
@[simp] theorem State.sampleInt_clk (s : State) : (s.sampleInt).clk = s.clk := rfl
@[simp] theorem State.sampleInt_cycle (s : State) : (s.sampleInt).cycle = s.cycle := rfl
@[simp] theorem State.sampleInt_pins (s : State) : (s.sampleInt).pins = s.pins := rfl
@[simp] theorem State.sampleInt_flight (s : State) : (s.sampleInt).flight = s.flight := rfl
@[simp] theorem State.sampleInt_mem (s : State) : (s.sampleInt).mem = s.mem := rfl
@[simp] theorem State.sampleInt_dataIn (s : State) : (s.sampleInt).dataIn = s.dataIn := rfl
@[simp] theorem State.sampleInt_portIn (s : State) : (s.sampleInt).portIn = s.portIn := rfl
@[simp] theorem State.sampleInt_portOut (s : State) : (s.sampleInt).portOut = s.portOut := rfl
@[simp] theorem State.sampleInt_intaIn (s : State) : (s.sampleInt).intaIn = s.intaIn := rfl
@[simp] theorem State.sampleInt_freeCtr (s : State) : (s.sampleInt).freeCtr = s.freeCtr := rfl
@[simp] theorem State.sampleInt_events (s : State) : (s.sampleInt).events = s.events := rfl

/-! ### `State.triggerNmi` -/

@[simp] theorem State.triggerNmi_regs (s : State) : (s.triggerNmi).regs = s.regs := rfl
@[simp] theorem State.triggerNmi_nmiPending (s : State) : (s.triggerNmi).nmiPending = true := rfl
@[simp] theorem State.triggerNmi_intLatch (s : State) : (s.triggerNmi).intLatch = s.intLatch := rfl
@[simp] theorem State.triggerNmi_skipInt (s : State) : (s.triggerNmi).skipInt = s.skipInt := rfl
@[simp] theorem State.triggerNmi_skipNmi (s : State) : (s.triggerNmi).skipNmi = s.skipNmi := rfl
@[simp] theorem State.triggerNmi_dec (s : State) : (s.triggerNmi).dec = s.dec := rfl
@[simp] theorem State.triggerNmi_mode (s : State) : (s.triggerNmi).mode = s.mode := rfl
@[simp] theorem State.triggerNmi_clk (s : State) : (s.triggerNmi).clk = s.clk := rfl
@[simp] theorem State.triggerNmi_cycle (s : State) : (s.triggerNmi).cycle = s.cycle := rfl
@[simp] theorem State.triggerNmi_pins (s : State) : (s.triggerNmi).pins = s.pins := rfl
@[simp] theorem State.triggerNmi_flight (s : State) : (s.triggerNmi).flight = s.flight := rfl
@[simp] theorem State.triggerNmi_mem (s : State) : (s.triggerNmi).mem = s.mem := rfl
@[simp] theorem State.triggerNmi_dataIn (s : State) : (s.triggerNmi).dataIn = s.dataIn := rfl
@[simp] theorem State.triggerNmi_portIn (s : State) : (s.triggerNmi).portIn = s.portIn := rfl
@[simp] theorem State.triggerNmi_portOut (s : State) : (s.triggerNmi).portOut = s.portOut := rfl
@[simp] theorem State.triggerNmi_intaIn (s : State) : (s.triggerNmi).intaIn = s.intaIn := rfl
@[simp] theorem State.triggerNmi_freeCtr (s : State) : (s.triggerNmi).freeCtr = s.freeCtr := rfl
@[simp] theorem State.triggerNmi_events (s : State) : (s.triggerNmi).events = s.events := rfl

/-! ### `State.busTaken`, `State.afterRead`, `State.afterIn` -/

@[simp] theorem State.busTaken_regs (s : State) (k : ReadKind) (a : Word) : (s.busTaken k a).regs = s.regs := rfl
@[simp] theorem State.busTaken_nmiPending (s : State) (k : ReadKind) (a : Word) : (s.busTaken k a).nmiPending = s.nmiPending := rfl
@[simp] theorem State.busTaken_intLatch (s : State) (k : ReadKind) (a : Word) : (s.busTaken k a).intLatch = s.intLatch := rfl
@[simp] theorem State.busTaken_skipInt (s : State) (k : ReadKind) (a : Word) : (s.busTaken k a).skipInt = s.skipInt := rfl
@[simp] theorem State.busTaken_skipNmi (s : State) (k : ReadKind) (a : Word) : (s.busTaken k a).skipNmi = s.skipNmi := rfl
@[simp] theorem State.busTaken_dec (s : State) (k : ReadKind) (a : Word) : (s.busTaken k a).dec = s.dec := rfl
@[simp] theorem State.busTaken_mode (s : State) (k : ReadKind) (a : Word) : (s.busTaken k a).mode = s.mode := rfl
@[simp] theorem State.busTaken_clk (s : State) (k : ReadKind) (a : Word) : (s.busTaken k a).clk = s.clk := rfl
@[simp] theorem State.busTaken_cycle (s : State) (k : ReadKind) (a : Word) : (s.busTaken k a).cycle = s.cycle := rfl
@[simp] theorem State.busTaken_pins (s : State) (k : ReadKind) (a : Word) : (s.busTaken k a).pins = s.pins := rfl
@[simp] theorem State.busTaken_flight (s : State) (k : ReadKind) (a : Word) : (s.busTaken k a).flight = s.flight := rfl
@[simp] theorem State.busTaken_mem (s : State) (k : ReadKind) (a : Word) : (s.busTaken k a).mem = s.mem := rfl
@[simp] theorem State.busTaken_portOut (s : State) (k : ReadKind) (a : Word) : (s.busTaken k a).portOut = s.portOut := rfl
@[simp] theorem State.busTaken_events (s : State) (k : ReadKind) (a : Word) : (s.busTaken k a).events = s.events := rfl
@[simp] theorem State.afterRead_regs (s : State) (a : Word) : (s.afterRead a).regs = s.regs := rfl
@[simp] theorem State.afterRead_nmiPending (s : State) (a : Word) : (s.afterRead a).nmiPending = s.nmiPending := rfl
@[simp] theorem State.afterRead_intLatch (s : State) (a : Word) : (s.afterRead a).intLatch = s.intLatch := rfl
@[simp] theorem State.afterRead_skipInt (s : State) (a : Word) : (s.afterRead a).skipInt = s.skipInt := rfl
@[simp] theorem State.afterRead_skipNmi (s : State) (a : Word) : (s.afterRead a).skipNmi = s.skipNmi := rfl
@[simp] theorem State.afterRead_dec (s : State) (a : Word) : (s.afterRead a).dec = s.dec := rfl
@[simp] theorem State.afterRead_mode (s : State) (a : Word) : (s.afterRead a).mode = s.mode := rfl
@[simp] theorem State.afterRead_clk (s : State) (a : Word) : (s.afterRead a).clk = s.clk := rfl
@[simp] theorem State.afterRead_cycle (s : State) (a : Word) : (s.afterRead a).cycle = s.cycle := rfl
@[simp] theorem State.afterRead_pins (s : State) (a : Word) : (s.afterRead a).pins = s.pins := rfl
@[simp] theorem State.afterRead_flight (s : State) (a : Word) : (s.afterRead a).flight = s.flight := rfl
@[simp] theorem State.afterRead_mem (s : State) (a : Word) : (s.afterRead a).mem = s.mem := rfl
@[simp] theorem State.afterRead_portOut (s : State) (a : Word) : (s.afterRead a).portOut = s.portOut := rfl
@[simp] theorem State.afterRead_events (s : State) (a : Word) : (s.afterRead a).events = .memRead a (s.busByte .mem a) :: s.events := rfl
@[simp] theorem State.afterIn_regs (s : State) (a : Word) : (s.afterIn a).regs = s.regs := rfl
@[simp] theorem State.afterIn_nmiPending (s : State) (a : Word) : (s.afterIn a).nmiPending = s.nmiPending := rfl
@[simp] theorem State.afterIn_intLatch (s : State) (a : Word) : (s.afterIn a).intLatch = s.intLatch := rfl
@[simp] theorem State.afterIn_skipInt (s : State) (a : Word) : (s.afterIn a).skipInt = s.skipInt := rfl
@[simp] theorem State.afterIn_skipNmi (s : State) (a : Word) : (s.afterIn a).skipNmi = s.skipNmi := rfl
@[simp] theorem State.afterIn_dec (s : State) (a : Word) : (s.afterIn a).dec = s.dec := rfl
@[simp] theorem State.afterIn_mode (s : State) (a : Word) : (s.afterIn a).mode = s.mode := rfl
@[simp] theorem State.afterIn_clk (s : State) (a : Word) : (s.afterIn a).clk = s.clk := rfl
@[simp] theorem State.afterIn_cycle (s : State) (a : Word) : (s.afterIn a).cycle = s.cycle := rfl
@[simp] theorem State.afterIn_pins (s : State) (a : Word) : (s.afterIn a).pins = s.pins := rfl
@[simp] theorem State.afterIn_flight (s : State) (a : Word) : (s.afterIn a).flight = s.flight := rfl
@[simp] theorem State.afterIn_mem (s : State) (a : Word) : (s.afterIn a).mem = s.mem := rfl
@[simp] theorem State.afterIn_portOut (s : State) (a : Word) : (s.afterIn a).portOut = s.portOut := rfl
@[simp] theorem State.afterIn_events (s : State) (a : Word) : (s.afterIn a).events = .ioRead a (s.busByte .io a) :: s.events := rfl

/-! ### `State.ocf` -/

@[simp] theorem State.ocf_regs (s : State) : s.ocf.regs = s.regs.fetched (s.busByte .mem s.regs.pc) := rfl
@[simp] theorem State.ocf_nmiPending (s : State) : s.ocf.nmiPending = s.nmiPending := rfl
@[simp] theorem State.ocf_intLatch (s : State) : s.ocf.intLatch = s.intLatch := rfl
@[simp] theorem State.ocf_skipInt (s : State) : s.ocf.skipInt = s.skipInt := rfl
@[simp] theorem State.ocf_skipNmi (s : State) : s.ocf.skipNmi = s.skipNmi := rfl
@[simp] theorem State.ocf_dec (s : State) : s.ocf.dec = s.dec := rfl
@[simp] theorem State.ocf_mode (s : State) : s.ocf.mode = s.mode := rfl
@[simp] theorem State.ocf_clk (s : State) : s.ocf.clk = s.clk := rfl
@[simp] theorem State.ocf_cycle (s : State) : s.ocf.cycle = s.cycle := rfl
@[simp] theorem State.ocf_pins (s : State) : s.ocf.pins = s.pins := rfl
@[simp] theorem State.ocf_flight (s : State) : s.ocf.flight = s.flight := rfl
@[simp] theorem State.ocf_mem (s : State) : s.ocf.mem = s.mem := rfl
@[simp] theorem State.ocf_portOut (s : State) : s.ocf.portOut = s.portOut := rfl
@[simp] theorem State.ocf_events (s : State) : s.ocf.events = .fetch s.regs.pc (s.busByte .mem s.regs.pc) s.regs.ir :: s.events := rfl

end Sys2Proof.Machine
end

