-- ==== Sys2Proof/Laws/Ops.lean ====
section
/-! SUPPORT. One lemma for each shared operation, which says once everything that it does. -/

namespace Sys2Proof.Machine

/-- With nothing scripted on the data bus, a memory read gives the stored byte. -/
theorem State.busByte_mem (s : State) (a : Word) (h : s.dataIn = []) : s.busByte .mem a = s.mem.read a.toNat := by
  simp [State.busByte, h]

/-- With nothing scripted on the data bus, a memory read only records its cycle. -/
theorem State.afterRead_eq (s : State) (a : Word) (h : s.dataIn = []) :
    s.afterRead a = s.record (.memRead a (s.mem.read a.toNat)) := by
  cases s
  cases h
  rfl

@[simp] theorem State.readMem_eq {α : Type} (s : State) (a : Word) (k : Byte → State → α) :
    s.readMem a k = k (s.busByte .mem a) (s.afterRead a) := rfl

@[simp] theorem State.readPort_eq {α : Type} (s : State) (a : Word) (k : Byte → State → α) :
    s.readPort a k = k (s.busByte .io a) (s.afterIn a) := rfl

/-- A 16-bit read is two byte reads, the low byte first (R83). -/
theorem State.read16_eq {α : Type} (s : State) (a : Word) (k : Word → State → α) :
    s.read16 a k =
      k (mk16 ((s.afterRead a).busByte .mem (a + 1)) (s.busByte .mem a)) ((s.afterRead a).afterRead (a + 1)) := rfl

/-- A pop reads at SP and adds two to it (R83). -/
theorem State.pop_eq {α : Type} (s : State) (k : Word → State → α) :
    s.pop k =
      k (mk16 ((s.afterRead s.regs.sp).busByte .mem (s.regs.sp + 1)) (s.busByte .mem s.regs.sp))
        (((s.afterRead s.regs.sp).afterRead (s.regs.sp + 1)).setRegs { s.regs with sp := s.regs.sp + 2 }) := by
  simp [State.pop, State.read16_eq]

/-- What computing the indexed address does to the decoder state: `ea_ready` is set, and the fields that say what is decoded change only where a
DDCB or FDCB operation byte has been waiting (R144, R150, R154). -/
theorem Decoder.eaComputed_spec (d : Decoder) :
    d.eaComputed.eaReady = true ∧ d.eaComputed.modifier = d.modifier ∧ d.eaComputed.subset = d.subset ∧ d.eaComputed.disp = d.disp ∧
    d.eaComputed.dispReady = d.dispReady ∧ d.eaComputed.ddcbOp = d.ddcbOp ∧ d.eaComputed.entry = d.entry ∧
    (d.started = true → d.eaComputed = { d with eaReady := true }) := by
  unfold Decoder.eaComputed
  split <;> simp_all

/-- The indexed address: WZ takes it, and the filler follows (R154). -/
theorem State.indexed_eq {α : Type} (s : State) (x : XY) (d : Byte) (n : Nat) (k : Word → State → α) :
    s.indexed x d n k =
      k (s.regs.ea x d)
        { s with
          regs := { s.regs with wz := s.regs.ea x d }
          dec := s.dec.eaComputed
          events := .filler n :: s.events } := rfl

@[simp] theorem State.done_eq (s : State) : s.done = .next (s.setRegs { s.regs with q := 0 }) := rfl

@[simp] theorem State.doneFlags_eq (s : State) (f : Flags) :
    s.doneFlags f = .next (s.setRegs { s.regs with f := f.toByte, q := f.toByte }) := rfl

@[simp] theorem andThen_next (s : State) (k : State → Out) : andThen (.next s) k = k s := rfl
@[simp] theorem andThen_fault (r : Fault) (k : State → Out) : andThen (.fault r) k = .fault r := rfl
@[simp] theorem andThen_refused (r : Refusal) (k : State → Out) : andThen (.refused r) k = .refused r := rfl

/-- Only a next state goes on. -/
theorem andThen_next_iff (o : Out) (k : State → Out) (t : State) : andThen o k = .next t ↔ ∃ s, o = .next s ∧ k s = .next t := by
  cases o <;> simp

/-- A push keeps the canonical form of memory. -/
theorem State.push_wf (s : State) (v : Word) (h : s.mem.wf = true) : (s.push v).mem.wf = true := by
  rw [State.push_mem]
  exact Memory.write_wf _ _ _ (Memory.write_wf _ _ _ h)

/-- The two stack bytes of a push do not lie at one address. -/
theorem sub_one_ne_sub_two (sp : Word) : (sp - 1).toNat ≠ (sp - 2).toNat := by
  intro h
  have := BitVec.eq_of_toNat_eq h
  bv_omega

/-- Refresh keeps bit 7 and counts modulo 128 (R29). -/
theorem refreshInc_spec (r : Byte) : (refreshInc r).getLsbD 7 = r.getLsbD 7 ∧ (refreshInc r).toNat % 128 = (r.toNat + 1) % 128 := by
  revert r; decide

end Sys2Proof.Machine
end

