-- ==== Sys2Proof/Laws/PerInstr.lean ====
section
/-! SUPPORT. The per-instruction family `FetchesItsBytes`: the cycles that fetch an instruction read each byte of its encoding once, whatever
its prefixes. -/

namespace Sys2Proof.Laws.FetchesItsBytes

open Sys2Proof Sys2Proof.Machine

/-- The cycles of a fetch that read a byte. -/
def byteCycles (cs : List FetchCycle) : Nat :=
  match cs with
  | [] => 0
  | .opcode :: rest => byteCycles rest + 1
  | .operand :: rest => byteCycles rest + 1
  | .filler _ :: rest => byteCycles rest

/-- The fetch of `i` reads as many bytes as its encoding has. -/
def Statement (i : Instr) : Prop := byteCycles (fetchCycles (encode i)) = i.length

theorem byteCycles_operands (n : Nat) : byteCycles (List.replicate n FetchCycle.operand) = n := by
  induction n with
  | zero => rfl
  | succ n ih => simp [List.replicate_succ, byteCycles, ih]

/-- True of every byte list, so of every encoding. -/
theorem byteCycles_fetchCycles : ∀ bs : List Byte, byteCycles (fetchCycles bs) = bs.length
  | [] => rfl
  | [b] => by
    unfold fetchCycles
    split
    · rfl
    · split
      · rfl
      · split <;> rfl
  | b :: op :: rest => by
    unfold fetchCycles
    split
    · dsimp only
      split
      · simp [byteCycles, byteCycles_operands]
      · have := byteCycles_fetchCycles (op :: rest)
        simp [byteCycles, this]
    · split
      · simp [byteCycles, byteCycles_operands]
      · split <;> simp [byteCycles, byteCycles_operands]


theorem nop : Statement (.nop) := byteCycles_fetchCycles _
theorem exAfAf : Statement (.exAfAf) := byteCycles_fetchCycles _
theorem djnz (e : Byte) : Statement (.djnz e) := byteCycles_fetchCycles _
theorem jr (e : Byte) : Statement (.jr e) := byteCycles_fetchCycles _
theorem jrCc (cc : JrCond) (e : Byte) : Statement (.jrCc cc e) := byteCycles_fetchCycles _
theorem ldRpNn (p : RP) (nn : Word) : Statement (.ldRpNn p nn) := byteCycles_fetchCycles _
theorem ldXyNn (x : XY) (nn : Word) : Statement (.ldXyNn x nn) := byteCycles_fetchCycles _
theorem addHlRp (p : RP) : Statement (.addHlRp p) := byteCycles_fetchCycles _
theorem addXyRp (x : XY) (p : RP) : Statement (.addXyRp x p) := byteCycles_fetchCycles _
theorem ldPairA (p : BcDe) : Statement (.ldPairA p) := byteCycles_fetchCycles _
theorem ldMemHl (nn : Word) : Statement (.ldMemHl nn) := byteCycles_fetchCycles _
theorem ldMemXy (x : XY) (nn : Word) : Statement (.ldMemXy x nn) := byteCycles_fetchCycles _
theorem ldMemA (nn : Word) : Statement (.ldMemA nn) := byteCycles_fetchCycles _
theorem ldAPair (p : BcDe) : Statement (.ldAPair p) := byteCycles_fetchCycles _
theorem ldHlMem (nn : Word) : Statement (.ldHlMem nn) := byteCycles_fetchCycles _
theorem ldXyMem (x : XY) (nn : Word) : Statement (.ldXyMem x nn) := byteCycles_fetchCycles _
theorem ldAMem (nn : Word) : Statement (.ldAMem nn) := byteCycles_fetchCycles _
theorem incRp (p : RP) : Statement (.incRp p) := byteCycles_fetchCycles _
theorem incXy (x : XY) : Statement (.incXy x) := byteCycles_fetchCycles _
theorem incR (r : R8) : Statement (.incR r) := byteCycles_fetchCycles _
theorem incHalf (x : XY) (k : Half) : Statement (.incHalf x k) := byteCycles_fetchCycles _
theorem incMem : Statement (.incMem) := byteCycles_fetchCycles _
theorem incIdx (x : XY) (d : Byte) : Statement (.incIdx x d) := byteCycles_fetchCycles _
theorem decR (r : R8) : Statement (.decR r) := byteCycles_fetchCycles _
theorem decHalf (x : XY) (k : Half) : Statement (.decHalf x k) := byteCycles_fetchCycles _
theorem decMem : Statement (.decMem) := byteCycles_fetchCycles _
theorem decIdx (x : XY) (d : Byte) : Statement (.decIdx x d) := byteCycles_fetchCycles _
theorem ldRN (r : R8) (n : Byte) : Statement (.ldRN r n) := byteCycles_fetchCycles _
theorem ldHalfN (x : XY) (k : Half) (n : Byte) : Statement (.ldHalfN x k n) := byteCycles_fetchCycles _
theorem ldHlN (n : Byte) : Statement (.ldHlN n) := byteCycles_fetchCycles _
theorem ldIdxN (x : XY) (d : Byte) (n : Byte) : Statement (.ldIdxN x d n) := byteCycles_fetchCycles _
theorem decRp (p : RP) : Statement (.decRp p) := byteCycles_fetchCycles _
theorem decXy (x : XY) : Statement (.decXy x) := byteCycles_fetchCycles _
theorem rlca : Statement (.rlca) := byteCycles_fetchCycles _
theorem rrca : Statement (.rrca) := byteCycles_fetchCycles _
theorem rla : Statement (.rla) := byteCycles_fetchCycles _
theorem rra : Statement (.rra) := byteCycles_fetchCycles _
theorem daa : Statement (.daa) := byteCycles_fetchCycles _
theorem cpl : Statement (.cpl) := byteCycles_fetchCycles _
theorem scf : Statement (.scf) := byteCycles_fetchCycles _
theorem ccf : Statement (.ccf) := byteCycles_fetchCycles _
theorem ldRR (r : R8) (r2 : R8) : Statement (.ldRR r r2) := byteCycles_fetchCycles _
theorem ldRRXy (x : XY) (r : R8X) (r2 : R8X) : Statement (.ldRRXy x r r2) := byteCycles_fetchCycles _
theorem halt : Statement (.halt) := byteCycles_fetchCycles _
theorem haltXy (x : XY) : Statement (.haltXy x) := byteCycles_fetchCycles _
theorem ldRMem (r : R8) : Statement (.ldRMem r) := byteCycles_fetchCycles _
theorem ldRIdx (r : R8) (x : XY) (d : Byte) : Statement (.ldRIdx r x d) := byteCycles_fetchCycles _
theorem ldMemR (r : R8) : Statement (.ldMemR r) := byteCycles_fetchCycles _
theorem ldIdxR (x : XY) (d : Byte) (r : R8) : Statement (.ldIdxR x d r) := byteCycles_fetchCycles _
theorem addR (r : R8) : Statement (.addR r) := byteCycles_fetchCycles _
theorem addMem : Statement (.addMem) := byteCycles_fetchCycles _
theorem addHalf (x : XY) (k : Half) : Statement (.addHalf x k) := byteCycles_fetchCycles _
theorem addIdx (x : XY) (d : Byte) : Statement (.addIdx x d) := byteCycles_fetchCycles _
theorem addN (n : Byte) : Statement (.addN n) := byteCycles_fetchCycles _
theorem adcR (r : R8) : Statement (.adcR r) := byteCycles_fetchCycles _
theorem adcMem : Statement (.adcMem) := byteCycles_fetchCycles _
theorem adcHalf (x : XY) (k : Half) : Statement (.adcHalf x k) := byteCycles_fetchCycles _
theorem adcIdx (x : XY) (d : Byte) : Statement (.adcIdx x d) := byteCycles_fetchCycles _
theorem adcN (n : Byte) : Statement (.adcN n) := byteCycles_fetchCycles _
theorem subR (r : R8) : Statement (.subR r) := byteCycles_fetchCycles _
theorem subMem : Statement (.subMem) := byteCycles_fetchCycles _
theorem subHalf (x : XY) (k : Half) : Statement (.subHalf x k) := byteCycles_fetchCycles _
theorem subIdx (x : XY) (d : Byte) : Statement (.subIdx x d) := byteCycles_fetchCycles _
theorem subN (n : Byte) : Statement (.subN n) := byteCycles_fetchCycles _
theorem sbcR (r : R8) : Statement (.sbcR r) := byteCycles_fetchCycles _
theorem sbcMem : Statement (.sbcMem) := byteCycles_fetchCycles _
theorem sbcHalf (x : XY) (k : Half) : Statement (.sbcHalf x k) := byteCycles_fetchCycles _
theorem sbcIdx (x : XY) (d : Byte) : Statement (.sbcIdx x d) := byteCycles_fetchCycles _
theorem sbcN (n : Byte) : Statement (.sbcN n) := byteCycles_fetchCycles _
theorem andR (r : R8) : Statement (.andR r) := byteCycles_fetchCycles _
theorem andMem : Statement (.andMem) := byteCycles_fetchCycles _
theorem andHalf (x : XY) (k : Half) : Statement (.andHalf x k) := byteCycles_fetchCycles _
theorem andIdx (x : XY) (d : Byte) : Statement (.andIdx x d) := byteCycles_fetchCycles _
theorem andN (n : Byte) : Statement (.andN n) := byteCycles_fetchCycles _
theorem xorR (r : R8) : Statement (.xorR r) := byteCycles_fetchCycles _
theorem xorMem : Statement (.xorMem) := byteCycles_fetchCycles _
theorem xorHalf (x : XY) (k : Half) : Statement (.xorHalf x k) := byteCycles_fetchCycles _
theorem xorIdx (x : XY) (d : Byte) : Statement (.xorIdx x d) := byteCycles_fetchCycles _
theorem xorN (n : Byte) : Statement (.xorN n) := byteCycles_fetchCycles _
theorem orR (r : R8) : Statement (.orR r) := byteCycles_fetchCycles _
theorem orMem : Statement (.orMem) := byteCycles_fetchCycles _
theorem orHalf (x : XY) (k : Half) : Statement (.orHalf x k) := byteCycles_fetchCycles _
theorem orIdx (x : XY) (d : Byte) : Statement (.orIdx x d) := byteCycles_fetchCycles _
theorem orN (n : Byte) : Statement (.orN n) := byteCycles_fetchCycles _
theorem cpR (r : R8) : Statement (.cpR r) := byteCycles_fetchCycles _
theorem cpMem : Statement (.cpMem) := byteCycles_fetchCycles _
theorem cpHalf (x : XY) (k : Half) : Statement (.cpHalf x k) := byteCycles_fetchCycles _
theorem cpIdx (x : XY) (d : Byte) : Statement (.cpIdx x d) := byteCycles_fetchCycles _
theorem cpN (n : Byte) : Statement (.cpN n) := byteCycles_fetchCycles _
theorem retCc (cc : Cond) : Statement (.retCc cc) := byteCycles_fetchCycles _
theorem popRr (p : RP2) : Statement (.popRr p) := byteCycles_fetchCycles _
theorem popXy (x : XY) : Statement (.popXy x) := byteCycles_fetchCycles _
theorem ret : Statement (.ret) := byteCycles_fetchCycles _
theorem exx : Statement (.exx) := byteCycles_fetchCycles _
theorem jpHl : Statement (.jpHl) := byteCycles_fetchCycles _
theorem jpXy (x : XY) : Statement (.jpXy x) := byteCycles_fetchCycles _
theorem ldSpHl : Statement (.ldSpHl) := byteCycles_fetchCycles _
theorem ldSpXy (x : XY) : Statement (.ldSpXy x) := byteCycles_fetchCycles _
theorem jpCc (cc : Cond) (nn : Word) : Statement (.jpCc cc nn) := byteCycles_fetchCycles _
theorem jp (nn : Word) : Statement (.jp nn) := byteCycles_fetchCycles _
theorem outNA (n : Byte) : Statement (.outNA n) := byteCycles_fetchCycles _
theorem inAN (n : Byte) : Statement (.inAN n) := byteCycles_fetchCycles _
theorem exSpHl : Statement (.exSpHl) := byteCycles_fetchCycles _
theorem exSpXy (x : XY) : Statement (.exSpXy x) := byteCycles_fetchCycles _
theorem exDeHl : Statement (.exDeHl) := byteCycles_fetchCycles _
theorem di : Statement (.di) := byteCycles_fetchCycles _
theorem ei : Statement (.ei) := byteCycles_fetchCycles _
theorem callCc (cc : Cond) (nn : Word) : Statement (.callCc cc nn) := byteCycles_fetchCycles _
theorem pushRr (p : RP2) : Statement (.pushRr p) := byteCycles_fetchCycles _
theorem pushXy (x : XY) : Statement (.pushXy x) := byteCycles_fetchCycles _
theorem call (nn : Word) : Statement (.call nn) := byteCycles_fetchCycles _
theorem rst (y : BitVec 3) : Statement (.rst y) := byteCycles_fetchCycles _
theorem ignored (x : XY) (i : Instr) : Statement (.ignored x i) := byteCycles_fetchCycles _
theorem rlcR (r : R8) : Statement (.rlcR r) := byteCycles_fetchCycles _
theorem rlcMem : Statement (.rlcMem) := byteCycles_fetchCycles _
theorem rlcIdx (x : XY) (d : Byte) : Statement (.rlcIdx x d) := byteCycles_fetchCycles _
theorem rlcIdxR (x : XY) (d : Byte) (r : R8) : Statement (.rlcIdxR x d r) := byteCycles_fetchCycles _
theorem rrcR (r : R8) : Statement (.rrcR r) := byteCycles_fetchCycles _
theorem rrcMem : Statement (.rrcMem) := byteCycles_fetchCycles _
theorem rrcIdx (x : XY) (d : Byte) : Statement (.rrcIdx x d) := byteCycles_fetchCycles _
theorem rrcIdxR (x : XY) (d : Byte) (r : R8) : Statement (.rrcIdxR x d r) := byteCycles_fetchCycles _
theorem rlR (r : R8) : Statement (.rlR r) := byteCycles_fetchCycles _
theorem rlMem : Statement (.rlMem) := byteCycles_fetchCycles _
theorem rlIdx (x : XY) (d : Byte) : Statement (.rlIdx x d) := byteCycles_fetchCycles _
theorem rlIdxR (x : XY) (d : Byte) (r : R8) : Statement (.rlIdxR x d r) := byteCycles_fetchCycles _
theorem rrR (r : R8) : Statement (.rrR r) := byteCycles_fetchCycles _
theorem rrMem : Statement (.rrMem) := byteCycles_fetchCycles _
theorem rrIdx (x : XY) (d : Byte) : Statement (.rrIdx x d) := byteCycles_fetchCycles _
theorem rrIdxR (x : XY) (d : Byte) (r : R8) : Statement (.rrIdxR x d r) := byteCycles_fetchCycles _
theorem slaR (r : R8) : Statement (.slaR r) := byteCycles_fetchCycles _
theorem slaMem : Statement (.slaMem) := byteCycles_fetchCycles _
theorem slaIdx (x : XY) (d : Byte) : Statement (.slaIdx x d) := byteCycles_fetchCycles _
theorem slaIdxR (x : XY) (d : Byte) (r : R8) : Statement (.slaIdxR x d r) := byteCycles_fetchCycles _
theorem sraR (r : R8) : Statement (.sraR r) := byteCycles_fetchCycles _
theorem sraMem : Statement (.sraMem) := byteCycles_fetchCycles _
theorem sraIdx (x : XY) (d : Byte) : Statement (.sraIdx x d) := byteCycles_fetchCycles _
theorem sraIdxR (x : XY) (d : Byte) (r : R8) : Statement (.sraIdxR x d r) := byteCycles_fetchCycles _
theorem sllR (r : R8) : Statement (.sllR r) := byteCycles_fetchCycles _
theorem sllMem : Statement (.sllMem) := byteCycles_fetchCycles _
theorem sllIdx (x : XY) (d : Byte) : Statement (.sllIdx x d) := byteCycles_fetchCycles _
theorem sllIdxR (x : XY) (d : Byte) (r : R8) : Statement (.sllIdxR x d r) := byteCycles_fetchCycles _
theorem srlR (r : R8) : Statement (.srlR r) := byteCycles_fetchCycles _
theorem srlMem : Statement (.srlMem) := byteCycles_fetchCycles _
theorem srlIdx (x : XY) (d : Byte) : Statement (.srlIdx x d) := byteCycles_fetchCycles _
theorem srlIdxR (x : XY) (d : Byte) (r : R8) : Statement (.srlIdxR x d r) := byteCycles_fetchCycles _
theorem bitR (b : BitVec 3) (r : R8) : Statement (.bitR b r) := byteCycles_fetchCycles _
theorem bitMem (b : BitVec 3) : Statement (.bitMem b) := byteCycles_fetchCycles _
theorem bitIdx (x : XY) (d : Byte) (b : BitVec 3) (z : BitVec 3) : Statement (.bitIdx x d b z) := byteCycles_fetchCycles _
theorem resR (b : BitVec 3) (r : R8) : Statement (.resR b r) := byteCycles_fetchCycles _
theorem resMem (b : BitVec 3) : Statement (.resMem b) := byteCycles_fetchCycles _
theorem resIdx (x : XY) (d : Byte) (b : BitVec 3) : Statement (.resIdx x d b) := byteCycles_fetchCycles _
theorem resIdxR (x : XY) (d : Byte) (b : BitVec 3) (r : R8) : Statement (.resIdxR x d b r) := byteCycles_fetchCycles _
theorem setR (b : BitVec 3) (r : R8) : Statement (.setR b r) := byteCycles_fetchCycles _
theorem setMem (b : BitVec 3) : Statement (.setMem b) := byteCycles_fetchCycles _
theorem setIdx (x : XY) (d : Byte) (b : BitVec 3) : Statement (.setIdx x d b) := byteCycles_fetchCycles _
theorem setIdxR (x : XY) (d : Byte) (b : BitVec 3) (r : R8) : Statement (.setIdxR x d b r) := byteCycles_fetchCycles _
theorem inRC (r : R8) : Statement (.inRC r) := byteCycles_fetchCycles _
theorem inC : Statement (.inC) := byteCycles_fetchCycles _
theorem outCR (r : R8) : Statement (.outCR r) := byteCycles_fetchCycles _
theorem outC0 : Statement (.outC0) := byteCycles_fetchCycles _
theorem sbcHlRp (p : RP) : Statement (.sbcHlRp p) := byteCycles_fetchCycles _
theorem adcHlRp (p : RP) : Statement (.adcHlRp p) := byteCycles_fetchCycles _
theorem ldMemRp (p : RP) (nn : Word) : Statement (.ldMemRp p nn) := byteCycles_fetchCycles _
theorem ldRpMem (p : RP) (nn : Word) : Statement (.ldRpMem p nn) := byteCycles_fetchCycles _
theorem neg (y : BitVec 3) : Statement (.neg y) := byteCycles_fetchCycles _
theorem retn (y : BitVec 3) : Statement (.retn y) := byteCycles_fetchCycles _
theorem reti : Statement (.reti) := byteCycles_fetchCycles _
theorem im (y : BitVec 3) : Statement (.im y) := byteCycles_fetchCycles _
theorem ldIA : Statement (.ldIA) := byteCycles_fetchCycles _
theorem ldRA : Statement (.ldRA) := byteCycles_fetchCycles _
theorem ldAI : Statement (.ldAI) := byteCycles_fetchCycles _
theorem ldAR : Statement (.ldAR) := byteCycles_fetchCycles _
theorem rrd : Statement (.rrd) := byteCycles_fetchCycles _
theorem rld : Statement (.rld) := byteCycles_fetchCycles _
theorem nopEd7 (y0 : BitVec 1) : Statement (.nopEd7 y0) := byteCycles_fetchCycles _
theorem holeX0 (y : BitVec 3) (z : BitVec 3) : Statement (.holeX0 y z) := byteCycles_fetchCycles _
theorem holeX3 (y : BitVec 3) (z : BitVec 3) : Statement (.holeX3 y z) := byteCycles_fetchCycles _
theorem holeX2LowY (y2 : BitVec 2) (z2 : BitVec 2) : Statement (.holeX2LowY y2 z2) := byteCycles_fetchCycles _
theorem holeX2HighZ (y : BitVec 3) (z2 : BitVec 2) : Statement (.holeX2HighZ y z2) := byteCycles_fetchCycles _
theorem ldi : Statement (.ldi) := byteCycles_fetchCycles _
theorem cpi : Statement (.cpi) := byteCycles_fetchCycles _
theorem ini : Statement (.ini) := byteCycles_fetchCycles _
theorem outi : Statement (.outi) := byteCycles_fetchCycles _
theorem ldd : Statement (.ldd) := byteCycles_fetchCycles _
theorem cpd : Statement (.cpd) := byteCycles_fetchCycles _
theorem ind : Statement (.ind) := byteCycles_fetchCycles _
theorem outd : Statement (.outd) := byteCycles_fetchCycles _
theorem ldir : Statement (.ldir) := byteCycles_fetchCycles _
theorem cpir : Statement (.cpir) := byteCycles_fetchCycles _
theorem inir : Statement (.inir) := byteCycles_fetchCycles _
theorem otir : Statement (.otir) := byteCycles_fetchCycles _
theorem lddr : Statement (.lddr) := byteCycles_fetchCycles _
theorem cpdr : Statement (.cpdr) := byteCycles_fetchCycles _
theorem indr : Statement (.indr) := byteCycles_fetchCycles _
theorem otdr : Statement (.otdr) := byteCycles_fetchCycles _

end Sys2Proof.Laws.FetchesItsBytes
end

