-- ==== Sys2Proof/Laws/Reset.lean ====
section
/-! SUPPORT. What the decoder bookkeeping of the pin level, the fetch of one more prefix byte and the abandoning of a transaction can do, said
once. -/

namespace Sys2Proof.Machine

/-- An interrupt entry leaves the decoder state (R150). -/
theorem Decoder.afterCycle_of_entry (d : Decoder) (c : Cycle) (b : Byte) (h : d.entry ≠ .none) : d.afterCycle c b = d := by
  unfold Decoder.afterCycle
  split
  · rfl
  · rfl
  · exact absurd ‹_› h

/-- An opcode byte leaves the entry. -/
theorem Decoder.onOpcode_entry (d : Decoder) (b : Byte) : (d.onOpcode b).entry = d.entry := by
  unfold Decoder.onOpcode
  repeat' split
  all_goals rfl

/-- A memory read leaves the entry. -/
theorem Decoder.onRead_entry (d : Decoder) (v : Byte) : (d.onRead v).entry = d.entry := by
  unfold Decoder.onRead
  repeat' split
  all_goals rfl

/-- The address computation leaves the entry. -/
theorem Decoder.eaComputed_entry (d : Decoder) : d.eaComputed.entry = d.entry := by
  unfold Decoder.eaComputed
  repeat' split
  all_goals rfl

/-- No finished cycle changes the entry: only a boundary does. -/
theorem Decoder.afterCycle_entry (d : Decoder) (c : Cycle) (b : Byte) : (d.afterCycle c b).entry = d.entry := by
  cases h : d.entry with
  | nmi => rw [Decoder.afterCycle_of_entry d c b (by simp [h]), h]
  | int => rw [Decoder.afterCycle_of_entry d c b (by simp [h]), h]
  | none =>
    simp only [Decoder.afterCycle, h]
    cases c.kind with
    | fetch => exact (Decoder.onOpcode_entry d b).trans h
    | memRead => exact (Decoder.onRead_entry d c.got).trans h
    | filler =>
      simp only [Decoder.counted]
      split
      · exact (Decoder.eaComputed_entry d).trans h
      · exact h
    | memWrite => exact h
    | ioRead => exact h
    | ioWrite => exact h
    | intAck => exact h

/-- The fetch of one more prefix byte leaves on the pins what every fetch leaves: the refresh address, and the byte read (R45, R96). -/
theorem State.fetchPrefix_pins (s : State) : s.fetchPrefix.pins = { s.pins with level :=
    { s.pins.level with addr := s.regs.ir, data := s.busByte .mem s.regs.pc } } := rfl

/-- `t` differs from `s` in memory, the ports' record and the free counter alone, and memory has kept its canonical form. -/
def OnlyStored (s t : State) : Prop :=
  t = { s with mem := t.mem, portOut := t.portOut, freeCtr := t.freeCtr } ∧ (s.mem.wf = true → t.mem.wf = true)

theorem OnlyStored.refl (s : State) : OnlyStored s s := ⟨rfl, id⟩

theorem OnlyStored.trans {s t u : State} (h1 : OnlyStored s t) (h2 : OnlyStored t u) : OnlyStored s u := by
  refine ⟨?_, fun h => h2.2 (h1.2 h)⟩
  have e2 := h2.1
  rw [h1.1] at e2
  exact e2

theorem State.commitEvent_onlyStored (s : State) (e : BusEvent) : OnlyStored s (s.commitEvent e) := by
  cases e with
  | memWrite a v => exact ⟨rfl, fun h => Memory.write_wf _ _ _ h⟩
  | ioWrite a v => exact ⟨rfl, id⟩
  | fetch _ _ _ => exact .refl s
  | memRead _ _ => exact .refl s
  | ioRead _ _ => exact .refl s
  | intAck _ _ _ => exact .refl s
  | filler _ => exact .refl s

theorem State.commitCycle_onlyStored (s : State) (c : Cycle) : OnlyStored s (s.commitCycle c) := by
  unfold State.commitCycle
  split
  · exact State.commitEvent_onlyStored s _
  · exact State.commitEvent_onlyStored s _
  · exact .refl s

theorem State.abandonWrite_onlyStored (s : State) : OnlyStored s s.abandonWrite := by
  have count : OnlyStored s { s with freeCtr := s.freeCtr + 1 } := ⟨rfl, id⟩
  unfold State.abandonWrite
  repeat' split
  · exact count.trans (State.commitCycle_onlyStored _ _)
  · exact count
  · exact State.commitCycle_onlyStored s _
  · exact .refl s
  · exact .refl s

theorem foldl_commitEvent_onlyStored (l : List BusEvent) (s : State) : OnlyStored s (l.foldl State.commitEvent s) := by
  induction l generalizing s with
  | nil => exact .refl s
  | cons e l ih => exact (State.commitEvent_onlyStored s e).trans (ih _)

/-- Abandoning a transaction stores what has reached the host, and changes nothing else (R387, R414). -/
theorem State.abandonFlight_onlyStored (s : State) : OnlyStored s s.abandonFlight := by
  unfold State.abandonFlight
  split
  · exact .refl s
  · exact (foldl_commitEvent_onlyStored _ s).trans (State.abandonWrite_onlyStored _)

end Sys2Proof.Machine
end

