-- ==== Sys2Proof/Tests/Slice0.lean ====
section
/-! SUPPORT. The model's own tests. Expected values are taken from the spec: encodings from spec/30_encoding.md and the tables of files 41 to 46, written
out by hand; results from the rows of spec/95_test_vectors.md that each docstring names; the witnesses meet the hypotheses of the statements. -/

namespace Sys2Proof.Tests

open Sys2Proof Sys2Proof.Machine

/-! ### Well-formed terms -/

theorem test_wf_refuses_retn_1 : (Instr.retn 1).wf = false := by decide
theorem test_wf_refuses_ignored_before_hl : (Instr.ignored .ix (.addHlRp .bc)).wf = false := by decide
theorem test_wf_refuses_ignored_before_h : (Instr.ignored .iy (.incR .h)).wf = false := by decide
theorem test_wf_refuses_ignored_before_cb : (Instr.ignored .ix (.rlcR .b)).wf = false := by decide
theorem test_wf_refuses_ignored_retn_1 : (Instr.ignored .ix (.ignored .iy (.retn 1))).wf = false := by decide
theorem test_wf_accepts : (Instr.retn 0).wf = true ∧ (Instr.ignored .ix .exDeHl).wf = true ∧ (Instr.ignored .ix (.incR .b)).wf = true ∧
    (Instr.ignored .iy (.incXy .ix)).wf = true := by decide

/-! ### Decoding: every constructor, from its bytes -/

/-- Each list of bytes is exactly the encoding of its instruction, for the decoder and for the encoder. -/
def reads (l : List (List Byte × Instr)) : Bool :=
  l.all fun p => decide (decode p.1 = .ok p.2 []) && decide (encode p.2 = p.1)

theorem test_decode_x0a : reads [
    ([0x00], .nop),
    ([0x08], .exAfAf),
    ([0x10, 0xFE], .djnz 0xFE),
    ([0x18, 0x05], .jr 0x05),
    ([0x38, 0x80], .jrCc .c 0x80),
    ([0x11, 0x34, 0x12], .ldRpNn .de 0x1234),
    ([0xFD, 0x21, 0xCD, 0xAB], .ldXyNn .iy 0xABCD),
    ([0x39], .addHlRp .sp),
    ([0xDD, 0x29], .addXyRp .ix .hl),
    ([0x12], .ldPairA .de),
    ([0x22, 0x00, 0x50], .ldMemHl 0x5000),
    ([0xDD, 0x22, 0x00, 0x50], .ldMemXy .ix 0x5000),
    ([0x32, 0x00, 0x50], .ldMemA 0x5000),
    ([0x0A], .ldAPair .bc),
    ([0x2A, 0xFF, 0xFF], .ldHlMem 0xFFFF),
    ([0xFD, 0x2A, 0x00, 0x50], .ldXyMem .iy 0x5000),
    ([0x3A, 0x00, 0x50], .ldAMem 0x5000),
    ([0x33], .incRp .sp),
    ([0xDD, 0x23], .incXy .ix),
    ([0x0C], .incR .c),
    ([0xFD, 0x24], .incHalf .iy .hi),
    ([0x34], .incMem),
    ([0xDD, 0x34, 0xFF], .incIdx .ix 0xFF)] = true := by decide

theorem test_decode_x0b : reads [
    ([0x3D], .decR .a),
    ([0xDD, 0x2D], .decHalf .ix .lo),
    ([0x35], .decMem),
    ([0xFD, 0x35, 0x02], .decIdx .iy 0x02),
    ([0x16, 0x7F], .ldRN .d 0x7F),
    ([0xDD, 0x26, 0x12], .ldHalfN .ix .hi 0x12),
    ([0x36, 0x3C], .ldHlN 0x3C),
    ([0xDD, 0x36, 0x05, 0x3C], .ldIdxN .ix 0x05 0x3C),
    ([0x1B], .decRp .de),
    ([0xFD, 0x2B], .decXy .iy),
    ([0x07], .rlca),
    ([0x0F], .rrca),
    ([0x17], .rla),
    ([0x1F], .rra),
    ([0x27], .daa),
    ([0x2F], .cpl),
    ([0x37], .scf),
    ([0x3F], .ccf)] = true := by decide

theorem test_decode_x12a : reads [
    ([0x47], .ldRR .b .a),
    ([0xDD, 0x65], .ldRRXy .ix .xh .xl),
    ([0x76], .halt),
    ([0xFD, 0x76], .haltXy .iy),
    ([0x5E], .ldRMem .e),
    ([0xFD, 0x66, 0x80], .ldRIdx .h .iy 0x80),
    ([0x71], .ldMemR .c),
    ([0xDD, 0x77, 0x7F], .ldIdxR .ix 0x7F .a),
    ([0x80], .addR .b),
    ([0x86], .addMem),
    ([0xDD, 0x84], .addHalf .ix .hi),
    ([0xFD, 0x86, 0x01], .addIdx .iy 0x01),
    ([0xC6, 0x80], .addN 0x80),
    ([0x89], .adcR .c),
    ([0x8E], .adcMem),
    ([0xDD, 0x8D], .adcHalf .ix .lo),
    ([0xDD, 0x8E, 0x02], .adcIdx .ix 0x02),
    ([0xCE, 0x01], .adcN 0x01),
    ([0x92], .subR .d),
    ([0x96], .subMem),
    ([0xFD, 0x94], .subHalf .iy .hi),
    ([0xFD, 0x96, 0x03], .subIdx .iy 0x03),
    ([0xD6, 0x01], .subN 0x01),
    ([0x9B], .sbcR .e),
    ([0x9E], .sbcMem),
    ([0xDD, 0x9D], .sbcHalf .ix .lo),
    ([0xDD, 0x9E, 0x04], .sbcIdx .ix 0x04),
    ([0xDE, 0x01], .sbcN 0x01)] = true := by decide

theorem test_decode_x12b : reads [
    ([0xA4], .andR .h),
    ([0xA6], .andMem),
    ([0xFD, 0xA5], .andHalf .iy .lo),
    ([0xDD, 0xA6, 0x05], .andIdx .ix 0x05),
    ([0xE6, 0x0F], .andN 0x0F),
    ([0xAD], .xorR .l),
    ([0xAE], .xorMem),
    ([0xDD, 0xAC], .xorHalf .ix .hi),
    ([0xFD, 0xAE, 0x06], .xorIdx .iy 0x06),
    ([0xEE, 0xFF], .xorN 0xFF),
    ([0xB7], .orR .a),
    ([0xB6], .orMem),
    ([0xFD, 0xB5], .orHalf .iy .lo),
    ([0xDD, 0xB6, 0x07], .orIdx .ix 0x07),
    ([0xF6, 0x28], .orN 0x28),
    ([0xB8], .cpR .b),
    ([0xBE], .cpMem),
    ([0xDD, 0xBC], .cpHalf .ix .hi),
    ([0xFD, 0xBE, 0x08], .cpIdx .iy 0x08),
    ([0xFE, 0x28], .cpN 0x28)] = true := by decide

theorem test_decode_x3 : reads [
    ([0xC0], .retCc .nz),
    ([0xF1], .popRr .af),
    ([0xFD, 0xE1], .popXy .iy),
    ([0xC9], .ret),
    ([0xD9], .exx),
    ([0xE9], .jpHl),
    ([0xDD, 0xE9], .jpXy .ix),
    ([0xF9], .ldSpHl),
    ([0xFD, 0xF9], .ldSpXy .iy),
    ([0xEA, 0x00, 0x30], .jpCc .pe 0x3000),
    ([0xC3, 0x34, 0x12], .jp 0x1234),
    ([0xD3, 0xFE], .outNA 0xFE),
    ([0xDB, 0xFE], .inAN 0xFE),
    ([0xE3], .exSpHl),
    ([0xDD, 0xE3], .exSpXy .ix),
    ([0xEB], .exDeHl),
    ([0xF3], .di),
    ([0xFB], .ei),
    ([0xFC, 0x34, 0x12], .callCc .m 0x1234),
    ([0xD5], .pushRr .de),
    ([0xDD, 0xE5], .pushXy .ix),
    ([0xCD, 0x34, 0x12], .call 0x1234),
    ([0xDF], .rst 3),
    ([0xFD, 0xEB], .ignored .iy .exDeHl),
    ([0xDD, 0xDD, 0xFD, 0x00], .ignored .ix (.ignored .ix (.ignored .iy .nop))),
    ([0xDD, 0xED, 0x44], .ignored .ix (.neg 0)),
    ([0xFD, 0x06, 0x12], .ignored .iy (.ldRN .b 0x12))] = true := by decide

theorem test_decode_cba : reads [
    ([0xCB, 0x00], .rlcR .b),
    ([0xCB, 0x06], .rlcMem),
    ([0xDD, 0xCB, 0x05, 0x06], .rlcIdx .ix 0x05),
    ([0xDD, 0xCB, 0x05, 0x01], .rlcIdxR .ix 0x05 .c),
    ([0xCB, 0x0A], .rrcR .d),
    ([0xCB, 0x0E], .rrcMem),
    ([0xFD, 0xCB, 0x05, 0x0E], .rrcIdx .iy 0x05),
    ([0xFD, 0xCB, 0x05, 0x0B], .rrcIdxR .iy 0x05 .e),
    ([0xCB, 0x14], .rlR .h),
    ([0xCB, 0x16], .rlMem),
    ([0xDD, 0xCB, 0x80, 0x16], .rlIdx .ix 0x80),
    ([0xDD, 0xCB, 0x80, 0x15], .rlIdxR .ix 0x80 .l),
    ([0xCB, 0x1F], .rrR .a),
    ([0xCB, 0x1E], .rrMem),
    ([0xFD, 0xCB, 0x7F, 0x1E], .rrIdx .iy 0x7F),
    ([0xFD, 0xCB, 0x7F, 0x18], .rrIdxR .iy 0x7F .b),
    ([0xCB, 0x21], .slaR .c),
    ([0xCB, 0x26], .slaMem),
    ([0xDD, 0xCB, 0x00, 0x26], .slaIdx .ix 0),
    ([0xDD, 0xCB, 0x00, 0x22], .slaIdxR .ix 0 .d),
    ([0xCB, 0x2B], .sraR .e),
    ([0xCB, 0x2E], .sraMem),
    ([0xFD, 0xCB, 0x00, 0x2E], .sraIdx .iy 0),
    ([0xFD, 0xCB, 0x00, 0x2C], .sraIdxR .iy 0 .h)] = true := by decide

theorem test_decode_cbb : reads [
    ([0xCB, 0x35], .sllR .l),
    ([0xCB, 0x36], .sllMem),
    ([0xDD, 0xCB, 0x01, 0x36], .sllIdx .ix 1),
    ([0xDD, 0xCB, 0x01, 0x37], .sllIdxR .ix 1 .a),
    ([0xCB, 0x38], .srlR .b),
    ([0xCB, 0x3E], .srlMem),
    ([0xFD, 0xCB, 0x01, 0x3E], .srlIdx .iy 1),
    ([0xFD, 0xCB, 0x01, 0x39], .srlIdxR .iy 1 .c),
    ([0xCB, 0x7A], .bitR 7 .d),
    ([0xCB, 0x46], .bitMem 0),
    ([0xDD, 0xCB, 0x05, 0x4E], .bitIdx .ix 0x05 1 6),
    ([0xFD, 0xCB, 0x05, 0x6B], .bitIdx .iy 0x05 5 3),
    ([0xCB, 0xA3], .resR 4 .e),
    ([0xCB, 0xBE], .resMem 7),
    ([0xDD, 0xCB, 0xFF, 0x86], .resIdx .ix 0xFF 0),
    ([0xDD, 0xCB, 0xFF, 0x94], .resIdxR .ix 0xFF 2 .h),
    ([0xCB, 0xDD], .setR 3 .l),
    ([0xCB, 0xCE], .setMem 1),
    ([0xFD, 0xCB, 0xFE, 0xFE], .setIdx .iy 0xFE 7),
    ([0xFD, 0xCB, 0xFE, 0xF7], .setIdxR .iy 0xFE 6 .a)] = true := by decide

theorem test_decode_ed : reads [
    ([0xED, 0x50], .inRC .d),
    ([0xED, 0x70], .inC),
    ([0xED, 0x59], .outCR .e),
    ([0xED, 0x71], .outC0),
    ([0xED, 0x42], .sbcHlRp .bc),
    ([0xED, 0x7A], .adcHlRp .sp),
    ([0xED, 0x53, 0x00, 0x50], .ldMemRp .de 0x5000),
    ([0xED, 0x7B, 0x00, 0x50], .ldRpMem .sp 0x5000),
    ([0xED, 0x44], .neg 0),
    ([0xED, 0x7C], .neg 7),
    ([0xED, 0x45], .retn 0),
    ([0xED, 0x55], .retn 2),
    ([0xED, 0x4D], .reti),
    ([0xED, 0x46], .im 0),
    ([0xED, 0x56], .im 2),
    ([0xED, 0x5E], .im 3),
    ([0xED, 0x7E], .im 7),
    ([0xED, 0x47], .ldIA),
    ([0xED, 0x4F], .ldRA),
    ([0xED, 0x57], .ldAI),
    ([0xED, 0x5F], .ldAR),
    ([0xED, 0x67], .rrd),
    ([0xED, 0x6F], .rld),
    ([0xED, 0x77], .nopEd7 0),
    ([0xED, 0x7F], .nopEd7 1),
    ([0xED, 0x00], .holeX0 0 0),
    ([0xED, 0x3F], .holeX0 7 7),
    ([0xED, 0xC1], .holeX3 0 1),
    ([0xED, 0xFF], .holeX3 7 7),
    ([0xED, 0x9B], .holeX2LowY 3 3),
    ([0xED, 0x80], .holeX2LowY 0 0),
    ([0xED, 0xA4], .holeX2HighZ 4 0),
    ([0xED, 0x9F], .holeX2HighZ 3 3)] = true := by decide

theorem test_decode_block : reads [
    ([0xED, 0xA0], .ldi),
    ([0xED, 0xA1], .cpi),
    ([0xED, 0xA2], .ini),
    ([0xED, 0xA3], .outi),
    ([0xED, 0xA8], .ldd),
    ([0xED, 0xA9], .cpd),
    ([0xED, 0xAA], .ind),
    ([0xED, 0xAB], .outd),
    ([0xED, 0xB0], .ldir),
    ([0xED, 0xB1], .cpir),
    ([0xED, 0xB2], .inir),
    ([0xED, 0xB3], .otir),
    ([0xED, 0xB8], .lddr),
    ([0xED, 0xB9], .cpdr),
    ([0xED, 0xBA], .indr),
    ([0xED, 0xBB], .otdr)] = true := by decide

/-- The opcode table's own numbering: one byte, and the first byte most significant. -/
theorem test_table_words : decodeTableWord 8 0x76 = some .halt ∧ decodeTableWord 16 0xEDB0 = some .ldir ∧
    decodeTableWord 8 0x3E = some (.ldRN .a 0) ∧ decodeTableWord 16 0xDD7E = some (.ldRIdx .a .ix 0) := by decide

/-! ### Results: rows of spec/95_test_vectors.md, one step each -/

/-- The memory that holds the given bytes. -/
def cells (l : List (Nat × Byte)) : Memory := l.foldl (fun m p => m.write p.1 p.2) []

/-- The state of a row: its registers over the reset values, its memory, and the bytes of its ports. -/
def rowState (code : List Byte) (pc : Word) (start : Regs → Regs) (mem : List (Nat × Byte)) (ports : List (Nat × Byte)) : State :=
  { State.reset with regs := start { Regs.reset with pc := pc }, mem := (cells mem).writeList pc code, portIn := ports }

/-- One step from the row's start state gives the row's end state: registers (Q is 0 unless listed; `instr` is not in the rows), memory, ports written
and T-states. -/
def vector (code : List Byte) (pc : Word) (start : Regs → Regs) (mem : List (Nat × Byte)) (ports : List (Nat × Byte)) (final : Regs → Regs)
    (memEnd : List (Nat × Byte)) (out : List (Nat × Byte)) (t : Nat) : Bool :=
  let s := rowState code pc start mem ports
  match step s with
  | .next u =>
    u.regs == { final { s.regs with q := 0 } with instr := u.regs.instr } &&
      u.mem == memEnd.foldl (fun m p => m.write p.1 p.2) s.mem && u.portOut == out && u.tStates == t
  | .fault _ => false
  | .refused _ => false

/-- V1.1 (R200): NOP. -/
theorem test_v1_1 : vector [0x00] 0x0000 (fun g => { g with a := 0x12, f := 0x00 }) [] []
    (fun g => { g with r := 0x01, pc := 0x0001 }) [] [] 4 = true := by decide

/-- V1.2 (R201): EX AF,AF'. -/
theorem test_v1_2 : vector [0x08] 0x0000 (fun g => { g with a := 0x12, f := 0x34, aAlt := 0x56, fAlt := 0x78 }) [] []
    (fun g => { g with a := 0x56, f := 0x78, aAlt := 0x12, fAlt := 0x34, r := 0x01, pc := 0x0001 }) [] [] 4 = true := by decide

/-- V1.3 (R202): DJNZ taken. -/
theorem test_v1_3 : vector [0x10, 0xFE] 0x0000 (fun g => { g with b := 0x02 }) [] []
    (fun g => { g with b := 0x01, r := 0x01 }) [] [] 13 = true := by decide

/-- V1.4 (R202): DJNZ not taken (B 1 to 0). -/
theorem test_v1_4 : vector [0x10, 0xFE] 0x0000 (fun g => { g with b := 0x01 }) [] []
    (fun g => { g with b := 0x00, r := 0x01, pc := 0x0002 }) [] [] 8 = true := by decide

/-- V1.6 (R203): JR -2 (to itself). -/
theorem test_v1_6 : vector [0x18, 0xFE] 0x1000 (fun g => g) [] []
    (fun g => { g with r := 0x01, wz := 0x1000 }) [] [] 12 = true := by decide

/-- V1.9 (R204): JR NZ taken. -/
theorem test_v1_9 : vector [0x20, 0x05] 0x0000 (fun g => { g with f := 0x00 }) [] []
    (fun g => { g with r := 0x01, pc := 0x0007, wz := 0x0007 }) [] [] 12 = true := by decide

/-- V1.12 (R205): LD BC,nn. -/
theorem test_v1_12 : vector [0x01, 0x34, 0x12] 0x0000 (fun g => g) [] []
    (fun g => { g with b := 0x12, c := 0x34, r := 0x01, pc := 0x0003 }) [] [] 10 = true := by decide

/-- V1.14 (R206): ADD HL,DE with carry out. -/
theorem test_v1_14 : vector [0x19] 0x0000 (fun g => { g with h := 0xFF, l := 0xFF, d := 0x00, e := 0x01, f := 0x00 }) [] []
    (fun g => { g with f := 0x11, h := 0x00, l := 0x00, r := 0x01, pc := 0x0001, q := 0x11 }) [] [] 11 = true := by decide

/-- V1.17 (R207): LD (BC),A. -/
theorem test_v1_17 : vector [0x02] 0x0000 (fun g => { g with a := 0x5A, b := 0x40, c := 0x00 }) [] []
    (fun g => { g with r := 0x01, pc := 0x0001, wz := 0x5A01 }) [(0x4000, 0x5A)] [] 7 = true := by decide

/-- V1.18 (R207): LD (DE),A. -/
theorem test_v1_18 : vector [0x12] 0x0000 (fun g => { g with a := 0x5A, d := 0x40, e := 0xFF }) [] []
    (fun g => { g with r := 0x01, pc := 0x0001, wz := 0x5A00 }) [(0x40FF, 0x5A)] [] 7 = true := by decide

/-- V1.19 (R208): LD (nn),HL. -/
theorem test_v1_19 : vector [0x22, 0x00, 0x50] 0x0000 (fun g => { g with h := 0x12, l := 0x34 }) [] []
    (fun g => { g with r := 0x01, pc := 0x0003, wz := 0x5001 }) [(0x5000, 0x34), (0x5001, 0x12)] [] 16 = true := by decide

/-- V1.21 (R209): LD (nn),A. -/
theorem test_v1_21 : vector [0x32, 0x00, 0x50] 0x0000 (fun g => { g with a := 0x77 }) [] []
    (fun g => { g with r := 0x01, pc := 0x0003, wz := 0x7701 }) [(0x5000, 0x77)] [] 13 = true := by decide

/-- V1.22 (R210): LD A,(BC). -/
theorem test_v1_22 : vector [0x0A] 0x0000 (fun g => { g with b := 0x50, c := 0x00 }) [(0x5000, 0x99)] []
    (fun g => { g with a := 0x99, r := 0x01, pc := 0x0001, wz := 0x5001 }) [] [] 7 = true := by decide

/-- V1.24 (R211): LD HL,(nn). -/
theorem test_v1_24 : vector [0x2A, 0x00, 0x50] 0x0000 (fun g => g) [(0x5000, 0x34), (0x5001, 0x12)] []
    (fun g => { g with h := 0x12, l := 0x34, r := 0x01, pc := 0x0003, wz := 0x5001 }) [] [] 16 = true := by decide

/-- V1.26 (R212): LD A,(nn). -/
theorem test_v1_26 : vector [0x3A, 0x00, 0x50] 0x0000 (fun g => g) [(0x5000, 0x81)] []
    (fun g => { g with a := 0x81, r := 0x01, pc := 0x0003, wz := 0x5001 }) [] [] 13 = true := by decide

/-- V1.27 (R213): INC BC wraps. -/
theorem test_v1_27 : vector [0x03] 0x0000 (fun g => { g with b := 0xFF, c := 0xFF, f := 0x00 }) [] []
    (fun g => { g with b := 0x00, c := 0x00, r := 0x01, pc := 0x0001 }) [] [] 6 = true := by decide

/-- V1.29 (R214): INC A 7F to 80 (overflow). -/
theorem test_v1_29 : vector [0x3C] 0x0000 (fun g => { g with a := 0x7F, f := 0x01 }) [] []
    (fun g => { g with a := 0x80, f := 0x95, r := 0x01, pc := 0x0001, q := 0x95 }) [] [] 4 = true := by decide

/-- V1.32 (R215): INC (HL). -/
theorem test_v1_32 : vector [0x34] 0x0000 (fun g => { g with h := 0x50, l := 0x00, f := 0x00 }) [(0x5000, 0x0F)] []
    (fun g => { g with f := 0x10, r := 0x01, pc := 0x0001, q := 0x10 }) [(0x5000, 0x10)] [] 11 = true := by decide

/-- V1.34 (R216): DEC C 80 to 7F (overflow). -/
theorem test_v1_34 : vector [0x0D] 0x0000 (fun g => { g with c := 0x80, f := 0x00 }) [] []
    (fun g => { g with f := 0x3E, c := 0x7F, r := 0x01, pc := 0x0001, q := 0x3E }) [] [] 4 = true := by decide

/-- V1.36 (R217): DEC (HL) 00 to FF. -/
theorem test_v1_36 : vector [0x35] 0x0000 (fun g => { g with h := 0x50, l := 0x00, f := 0x01 }) [(0x5000, 0x00)] []
    (fun g => { g with f := 0xBB, r := 0x01, pc := 0x0001, q := 0xBB }) [(0x5000, 0xFF)] [] 11 = true := by decide

/-- V1.38 (R218): LD D,n. -/
theorem test_v1_38 : vector [0x16, 0xA5] 0x0000 (fun g => g) [] []
    (fun g => { g with d := 0xA5, r := 0x01, pc := 0x0002 }) [] [] 7 = true := by decide

/-- V1.40 (R219): LD (HL),n. -/
theorem test_v1_40 : vector [0x36, 0x3C] 0x0000 (fun g => { g with h := 0x50, l := 0x00 }) [] []
    (fun g => { g with r := 0x01, pc := 0x0002 }) [(0x5000, 0x3C)] [] 10 = true := by decide

/-- V1.42 (R220): DEC DE wraps. -/
theorem test_v1_42 : vector [0x1B] 0x0000 (fun g => { g with d := 0x00, e := 0x00, f := 0x00 }) [] []
    (fun g => { g with d := 0xFF, e := 0xFF, r := 0x01, pc := 0x0001 }) [] [] 6 = true := by decide

/-- V1.43 (R229): RLCA. -/
theorem test_v1_43 : vector [0x07] 0x0000 (fun g => { g with a := 0x81, f := 0x00 }) [] []
    (fun g => { g with a := 0x03, f := 0x01, r := 0x01, pc := 0x0001, q := 0x01 }) [] [] 4 = true := by decide

/-- V1.44 (R230): RRCA. -/
theorem test_v1_44 : vector [0x0F] 0x0000 (fun g => { g with a := 0x01, f := 0x00 }) [] []
    (fun g => { g with a := 0x80, f := 0x01, r := 0x01, pc := 0x0001, q := 0x01 }) [] [] 4 = true := by decide

/-- V1.45 (R231): RLA. -/
theorem test_v1_45 : vector [0x17] 0x0000 (fun g => { g with a := 0x80, f := 0x00 }) [] []
    (fun g => { g with a := 0x00, f := 0x01, r := 0x01, pc := 0x0001, q := 0x01 }) [] [] 4 = true := by decide

/-- V1.46 (R232): RRA. -/
theorem test_v1_46 : vector [0x1F] 0x0000 (fun g => { g with a := 0x01, f := 0x01 }) [] []
    (fun g => { g with a := 0x80, r := 0x01, pc := 0x0001, q := 0x01 }) [] [] 4 = true := by decide

/-- V1.47 (R233): DAA after 15+27 (A=3C). -/
theorem test_v1_47 : vector [0x27] 0x0000 (fun g => { g with a := 0x3C, f := 0x00 }) [] []
    (fun g => { g with a := 0x42, f := 0x14, r := 0x01, pc := 0x0001, q := 0x14 }) [] [] 4 = true := by decide

/-- V1.48 (R233): DAA after 99+01 (A=9A). -/
theorem test_v1_48 : vector [0x27] 0x0000 (fun g => { g with a := 0x9A, f := 0x00 }) [] []
    (fun g => { g with a := 0x00, f := 0x55, r := 0x01, pc := 0x0001, q := 0x55 }) [] [] 4 = true := by decide

/-- V1.51 (R234): CPL. -/
theorem test_v1_51 : vector [0x2F] 0x0000 (fun g => { g with a := 0x5A, f := 0x00 }) [] []
    (fun g => { g with a := 0xA5, f := 0x32, r := 0x01, pc := 0x0001, q := 0x32 }) [] [] 4 = true := by decide

/-- V1.54 (R236): CCF with C = 1. -/
theorem test_v1_54 : vector [0x3F] 0x0000 (fun g => { g with a := 0x00, f := 0x01 }) [] []
    (fun g => { g with f := 0x10, r := 0x01, pc := 0x0001, q := 0x10 }) [] [] 4 = true := by decide

/-- V1.55 (R238): DD before NOP. -/
theorem test_v1_55 : vector [0xDD, 0x00] 0x0000 (fun g => g) [] []
    (fun g => { g with r := 0x02, pc := 0x0002 }) [] [] 8 = true := by decide

/-- V2.1 (R240): LD B,A. -/
theorem test_v2_1 : vector [0x47] 0x0000 (fun g => { g with a := 0x3C }) [] []
    (fun g => { g with b := 0x3C, r := 0x01, pc := 0x0001 }) [] [] 4 = true := by decide

/-- V2.4 (R241): HALT. -/
theorem test_v2_4 : vector [0x76] 0x0100 (fun g => g) [] []
    (fun g => { g with r := 0x01, pc := 0x0101, halted := true }) [] [] 4 = true := by decide

/-- V2.6 (R242): LD E,(HL). -/
theorem test_v2_6 : vector [0x5E] 0x0000 (fun g => { g with h := 0x50, l := 0x00 }) [(0x5000, 0x44)] []
    (fun g => { g with e := 0x44, r := 0x01, pc := 0x0001 }) [] [] 7 = true := by decide

/-- V2.9 (R243): LD (HL),B. -/
theorem test_v2_9 : vector [0x70] 0x0000 (fun g => { g with h := 0x50, l := 0x00, b := 0x9E }) [] []
    (fun g => { g with r := 0x01, pc := 0x0001 }) [(0x5000, 0x9E)] [] 7 = true := by decide

/-- V2.11 (R245): ADD A,B with half-carry. -/
theorem test_v2_11 : vector [0x80] 0x0000 (fun g => { g with a := 0x0F, b := 0x01, f := 0x00 }) [] []
    (fun g => { g with a := 0x10, f := 0x10, r := 0x01, pc := 0x0001, q := 0x10 }) [] [] 4 = true := by decide

/-- V2.12 (R245): ADD A,B 7F+01 overflow. -/
theorem test_v2_12 : vector [0x80] 0x0000 (fun g => { g with a := 0x7F, b := 0x01, f := 0x00 }) [] []
    (fun g => { g with a := 0x80, f := 0x94, r := 0x01, pc := 0x0001, q := 0x94 }) [] [] 4 = true := by decide

/-- V2.14 (R246): ADC A,C with carry in. -/
theorem test_v2_14 : vector [0x89] 0x0000 (fun g => { g with a := 0xFF, c := 0x00, f := 0x01 }) [] []
    (fun g => { g with a := 0x00, f := 0x51, r := 0x01, pc := 0x0001, q := 0x51 }) [] [] 4 = true := by decide

/-- V2.16 (R247): SUB B equal. -/
theorem test_v2_16 : vector [0x90] 0x0000 (fun g => { g with a := 0x42, b := 0x42, f := 0x00 }) [] []
    (fun g => { g with a := 0x00, f := 0x42, r := 0x01, pc := 0x0001, q := 0x42 }) [] [] 4 = true := by decide

/-- V2.17 (R247): SUB n 80-01 overflow. -/
theorem test_v2_17 : vector [0xD6, 0x01] 0x0000 (fun g => { g with a := 0x80, f := 0x00 }) [] []
    (fun g => { g with a := 0x7F, f := 0x3E, r := 0x01, pc := 0x0002, q := 0x3E }) [] [] 7 = true := by decide

/-- V2.18 (R248): SBC A,D with borrow in. -/
theorem test_v2_18 : vector [0x9A] 0x0000 (fun g => { g with a := 0x00, d := 0x00, f := 0x01 }) [] []
    (fun g => { g with a := 0xFF, f := 0xBB, r := 0x01, pc := 0x0001, q := 0xBB }) [] [] 4 = true := by decide

/-- V2.20 (R249): AND E. -/
theorem test_v2_20 : vector [0xA3] 0x0000 (fun g => { g with a := 0xF0, e := 0x3C, f := 0x00 }) [] []
    (fun g => { g with a := 0x30, f := 0x34, r := 0x01, pc := 0x0001, q := 0x34 }) [] [] 4 = true := by decide

/-- V2.22 (R250): XOR A. -/
theorem test_v2_22 : vector [0xAF] 0x0000 (fun g => { g with a := 0x5A, f := 0xFF }) [] []
    (fun g => { g with a := 0x00, f := 0x44, r := 0x01, pc := 0x0001, q := 0x44 }) [] [] 4 = true := by decide

/-- V2.24 (R251): OR H. -/
theorem test_v2_24 : vector [0xB4] 0x0000 (fun g => { g with a := 0x01, h := 0x80, f := 0x00 }) [] []
    (fun g => { g with a := 0x81, f := 0x84, r := 0x01, pc := 0x0001, q := 0x84 }) [] [] 4 = true := by decide

/-- V2.26 (R252): CP B: F5/F3 from the operand. -/
theorem test_v2_26 : vector [0xB8] 0x0000 (fun g => { g with a := 0x30, b := 0x28, f := 0x00 }) [] []
    (fun g => { g with f := 0x3A, r := 0x01, pc := 0x0001, q := 0x3A }) [] [] 4 = true := by decide

/-- V3.1 (R260): RET Z taken. -/
theorem test_v3_1 : vector [0xC8] 0x0000 (fun g => { g with f := 0x40, sp := 0x8000 }) [(0x8000, 0x34), (0x8001, 0x12)] []
    (fun g => { g with r := 0x01, sp := 0x8002, pc := 0x1234, wz := 0x1234 }) [] [] 11 = true := by decide

/-- V3.3 (R261): POP BC. -/
theorem test_v3_3 : vector [0xC1] 0x0000 (fun g => { g with sp := 0x8000 }) [(0x8000, 0x34), (0x8001, 0x12)] []
    (fun g => { g with b := 0x12, c := 0x34, r := 0x01, sp := 0x8002, pc := 0x0001 }) [] [] 10 = true := by decide

/-- V3.4 (R261): POP AF. -/
theorem test_v3_4 : vector [0xF1] 0x0000 (fun g => { g with sp := 0x8000 }) [(0x8000, 0xD7), (0x8001, 0x12)] []
    (fun g => { g with a := 0x12, f := 0xD7, r := 0x01, sp := 0x8002, pc := 0x0001 }) [] [] 10 = true := by decide

/-- V3.6 (R262): RET. -/
theorem test_v3_6 : vector [0xC9] 0x0000 (fun g => { g with sp := 0x8000 }) [(0x8000, 0x00), (0x8001, 0x20)] []
    (fun g => { g with r := 0x01, sp := 0x8002, pc := 0x2000, wz := 0x2000 }) [] [] 10 = true := by decide

/-- V3.7 (R266): EXX. -/
theorem test_v3_7 : vector [0xD9] 0x0000 (fun g => { g with b := 0x01, c := 0x02, d := 0x03, e := 0x04, h := 0x05, l := 0x06, bAlt := 0x11, cAlt := 0x12, dAlt := 0x13, eAlt := 0x14, hAlt := 0x15, lAlt := 0x16 }) [] []
    (fun g => { g with b := 0x11, c := 0x12, d := 0x13, e := 0x14, h := 0x15, l := 0x16, bAlt := 0x01, cAlt := 0x02, dAlt := 0x03, eAlt := 0x04, hAlt := 0x05, lAlt := 0x06, r := 0x01, pc := 0x0001 }) [] [] 4 = true := by decide

/-- V3.8 (R267): JP (HL). -/
theorem test_v3_8 : vector [0xE9] 0x0000 (fun g => { g with h := 0x40, l := 0x00 }) [] []
    (fun g => { g with r := 0x01, pc := 0x4000 }) [] [] 4 = true := by decide

/-- V3.10 (R268): LD SP,HL. -/
theorem test_v3_10 : vector [0xF9] 0x0000 (fun g => { g with h := 0x80, l := 0x00 }) [] []
    (fun g => { g with r := 0x01, sp := 0x8000, pc := 0x0001 }) [] [] 6 = true := by decide

/-- V3.12 (R269): JP PE,nn taken. -/
theorem test_v3_12 : vector [0xEA, 0x00, 0x30] 0x0000 (fun g => { g with f := 0x04 }) [] []
    (fun g => { g with r := 0x01, pc := 0x3000, wz := 0x3000 }) [] [] 10 = true := by decide

/-- V3.14 (R270): JP nn. -/
theorem test_v3_14 : vector [0xC3, 0x00, 0x30] 0x0000 (fun g => g) [] []
    (fun g => { g with r := 0x01, pc := 0x3000, wz := 0x3000 }) [] [] 10 = true := by decide

/-- V3.15 (R271): OUT (n),A. -/
theorem test_v3_15 : vector [0xD3, 0xFE] 0x0000 (fun g => { g with a := 0x12 }) [] []
    (fun g => { g with r := 0x01, pc := 0x0002, wz := 0x12FF }) [] [(0x12FE, 0x12)] 11 = true := by decide

/-- V3.16 (R272): IN A,(n). -/
theorem test_v3_16 : vector [0xDB, 0xFE] 0x0000 (fun g => { g with a := 0x12, f := 0x00 }) [] [(0x12FE, 0x5A)]
    (fun g => { g with a := 0x5A, r := 0x01, pc := 0x0002, wz := 0x12FF }) [] [] 11 = true := by decide

/-- V3.17 (R273): EX (SP),HL. -/
theorem test_v3_17 : vector [0xE3] 0x0000 (fun g => { g with h := 0x12, l := 0x34, sp := 0x8000 }) [(0x8000, 0x78), (0x8001, 0x56)] []
    (fun g => { g with h := 0x56, l := 0x78, r := 0x01, pc := 0x0001, wz := 0x5678 }) [(0x8000, 0x34), (0x8001, 0x12)] [] 19 = true := by decide

/-- V3.19 (R274): EX DE,HL. -/
theorem test_v3_19 : vector [0xEB] 0x0000 (fun g => { g with d := 0x11, e := 0x22, h := 0x33, l := 0x44 }) [] []
    (fun g => { g with d := 0x33, e := 0x44, h := 0x11, l := 0x22, r := 0x01, pc := 0x0001 }) [] [] 4 = true := by decide

/-- V3.21 (R275): DI. -/
theorem test_v3_21 : vector [0xF3] 0x0000 (fun g => { g with iff1 := true, iff2 := true }) [] []
    (fun g => { g with r := 0x01, pc := 0x0001, iff1 := false, iff2 := false }) [] [] 4 = true := by decide

/-- V3.22 (R276): EI. -/
theorem test_v3_22 : vector [0xFB] 0x0000 (fun g => { g with iff1 := false, iff2 := false }) [] []
    (fun g => { g with r := 0x01, pc := 0x0001, iff1 := true, iff2 := true }) [] [] 4 = true := by decide

/-- V3.23 (R277): CALL NC,nn taken. -/
theorem test_v3_23 : vector [0xD4, 0x00, 0x30] 0x1000 (fun g => { g with f := 0x00, sp := 0x8000 }) [] []
    (fun g => { g with r := 0x01, sp := 0x7FFE, pc := 0x3000, wz := 0x3000 }) [(0x7FFE, 0x03), (0x7FFF, 0x10)] [] 17 = true := by decide

/-- V3.25 (R278): PUSH DE. -/
theorem test_v3_25 : vector [0xD5] 0x0000 (fun g => { g with d := 0x12, e := 0x34, sp := 0x8000 }) [] []
    (fun g => { g with r := 0x01, sp := 0x7FFE, pc := 0x0001 }) [(0x7FFE, 0x34), (0x7FFF, 0x12)] [] 11 = true := by decide

/-- V3.28 (R279): CALL nn. -/
theorem test_v3_28 : vector [0xCD, 0x00, 0x30] 0x1000 (fun g => { g with sp := 0x8000 }) [] []
    (fun g => { g with r := 0x01, sp := 0x7FFE, pc := 0x3000, wz := 0x3000 }) [(0x7FFE, 0x03), (0x7FFF, 0x10)] [] 17 = true := by decide

/-- V3.29 (R280): RST 38. -/
theorem test_v3_29 : vector [0xFF] 0x1000 (fun g => { g with sp := 0x8000 }) [] []
    (fun g => { g with r := 0x01, sp := 0x7FFE, pc := 0x0038, wz := 0x0038 }) [(0x7FFE, 0x01), (0x7FFF, 0x10)] [] 11 = true := by decide

/-- V3.30 (R280): RST 00. -/
theorem test_v3_30 : vector [0xC7] 0x1000 (fun g => { g with sp := 0x8000 }) [] []
    (fun g => { g with r := 0x01, sp := 0x7FFE, pc := 0x0000 }) [(0x7FFE, 0x01), (0x7FFF, 0x10)] [] 11 = true := by decide

/-- V4.1 (R300): RLC B. -/
theorem test_v4_1 : vector [0xCB, 0x00] 0x0000 (fun g => { g with b := 0x80, f := 0x00 }) [] []
    (fun g => { g with f := 0x01, b := 0x01, r := 0x02, pc := 0x0002, q := 0x01 }) [] [] 8 = true := by decide

/-- V4.3 (R301): RRC C. -/
theorem test_v4_3 : vector [0xCB, 0x09] 0x0000 (fun g => { g with c := 0x01, f := 0x00 }) [] []
    (fun g => { g with f := 0x81, c := 0x80, r := 0x02, pc := 0x0002, q := 0x81 }) [] [] 8 = true := by decide

/-- V4.4 (R302): RL D. -/
theorem test_v4_4 : vector [0xCB, 0x12] 0x0000 (fun g => { g with d := 0x80, f := 0x00 }) [] []
    (fun g => { g with f := 0x45, d := 0x00, r := 0x02, pc := 0x0002, q := 0x45 }) [] [] 8 = true := by decide

/-- V4.5 (R303): RR E with carry in. -/
theorem test_v4_5 : vector [0xCB, 0x1B] 0x0000 (fun g => { g with e := 0x00, f := 0x01 }) [] []
    (fun g => { g with f := 0x80, e := 0x80, r := 0x02, pc := 0x0002, q := 0x80 }) [] [] 8 = true := by decide

/-- V4.6 (R304): SLA H. -/
theorem test_v4_6 : vector [0xCB, 0x24] 0x0000 (fun g => { g with h := 0xC0, f := 0x00 }) [] []
    (fun g => { g with f := 0x81, h := 0x80, r := 0x02, pc := 0x0002, q := 0x81 }) [] [] 8 = true := by decide

/-- V4.7 (R305): SRA L keeps bit 7. -/
theorem test_v4_7 : vector [0xCB, 0x2D] 0x0000 (fun g => { g with l := 0x81, f := 0x00 }) [] []
    (fun g => { g with f := 0x85, l := 0xC0, r := 0x02, pc := 0x0002, q := 0x85 }) [] [] 8 = true := by decide

/-- V4.8 (R306): SLL A (undocumented). -/
theorem test_v4_8 : vector [0xCB, 0x37] 0x0000 (fun g => { g with a := 0x80, f := 0x00 }) [] []
    (fun g => { g with a := 0x01, f := 0x01, r := 0x02, pc := 0x0002, q := 0x01 }) [] [] 8 = true := by decide

/-- V4.9 (R307): SRL A. -/
theorem test_v4_9 : vector [0xCB, 0x3F] 0x0000 (fun g => { g with a := 0x01, f := 0x00 }) [] []
    (fun g => { g with a := 0x00, f := 0x45, r := 0x02, pc := 0x0002, q := 0x45 }) [] [] 8 = true := by decide

/-- V4.10 (R308): BIT 7,A set. -/
theorem test_v4_10 : vector [0xCB, 0x7F] 0x0000 (fun g => { g with a := 0x80, f := 0x00 }) [] []
    (fun g => { g with f := 0x90, r := 0x02, pc := 0x0002, q := 0x90 }) [] [] 8 = true := by decide

/-- V4.13 (R309): RES 3,(HL). -/
theorem test_v4_13 : vector [0xCB, 0x9E] 0x0000 (fun g => { g with h := 0x50, l := 0x00, f := 0x00 }) [(0x5000, 0xFF)] []
    (fun g => { g with r := 0x02, pc := 0x0002 }) [(0x5000, 0xF7)] [] 15 = true := by decide

/-- V4.15 (R310): SET 7,E. -/
theorem test_v4_15 : vector [0xCB, 0xFB] 0x0000 (fun g => { g with e := 0x00 }) [] []
    (fun g => { g with e := 0x80, r := 0x02, pc := 0x0002 }) [] [] 8 = true := by decide

/-- V4.16 (R311): RLC (IX+2). -/
theorem test_v4_16 : vector [0xDD, 0xCB, 0x02, 0x06] 0x0000 (fun g => { g with ix := 0x5000, f := 0x00 }) [(0x5002, 0x81)] []
    (fun g => { g with f := 0x05, r := 0x02, pc := 0x0004, wz := 0x5002, q := 0x05 }) [(0x5002, 0x03)] [] 23 = true := by decide

/-- V4.19 (R312): BIT 1,(IX+5): F5/F3 from high(ea). -/
theorem test_v4_19 : vector [0xDD, 0xCB, 0x05, 0x4E] 0x0000 (fun g => { g with ix := 0x2800, f := 0x00 }) [(0x2805, 0x02)] []
    (fun g => { g with f := 0x38, r := 0x02, pc := 0x0004, wz := 0x2805, q := 0x38 }) [] [] 20 = true := by decide

/-- V4.20 (R312): BIT 0,(IY+0) with z = 0 (no copy). -/
theorem test_v4_20 : vector [0xFD, 0xCB, 0x00, 0x40] 0x0000 (fun g => { g with iy := 0x5000, f := 0x01 }) [(0x5000, 0x00)] []
    (fun g => { g with f := 0x55, r := 0x02, pc := 0x0004, wz := 0x5000, q := 0x55 }) [] [] 20 = true := by decide

/-- V5.1 (R320): IN B,(C). -/
theorem test_v5_1 : vector [0xED, 0x40] 0x0000 (fun g => { g with b := 0x12, c := 0x34, f := 0x01 }) [] [(0x1234, 0x80)]
    (fun g => { g with f := 0x81, b := 0x80, r := 0x02, pc := 0x0002, wz := 0x1235, q := 0x81 }) [] [] 12 = true := by decide

/-- V5.3 (R321): IN (C): flags only. -/
theorem test_v5_3 : vector [0xED, 0x70] 0x0000 (fun g => { g with b := 0x00, c := 0x10, f := 0x00 }) [] [(0x0010, 0x28)]
    (fun g => { g with f := 0x2C, r := 0x02, pc := 0x0002, wz := 0x0011, q := 0x2C }) [] [] 12 = true := by decide

/-- V5.4 (R322): OUT (C),E. -/
theorem test_v5_4 : vector [0xED, 0x59] 0x0000 (fun g => { g with b := 0x12, c := 0x34, e := 0x99 }) [] []
    (fun g => { g with r := 0x02, pc := 0x0002, wz := 0x1235 }) [] [(0x1234, 0x99)] 12 = true := by decide

/-- V5.5 (R323): OUT (C),0. -/
theorem test_v5_5 : vector [0xED, 0x71] 0x0000 (fun g => { g with b := 0x12, c := 0x34 }) [] []
    (fun g => { g with r := 0x02, pc := 0x0002, wz := 0x1235 }) [] [(0x1234, 0x00)] 12 = true := by decide

/-- V5.6 (R324): SBC HL,DE. -/
theorem test_v5_6 : vector [0xED, 0x52] 0x0000 (fun g => { g with h := 0x10, l := 0x00, d := 0x00, e := 0x01, f := 0x00 }) [] []
    (fun g => { g with f := 0x1A, h := 0x0F, l := 0xFF, r := 0x02, pc := 0x0002, wz := 0x1001, q := 0x1A }) [] [] 15 = true := by decide

/-- V5.9 (R325): ADC HL,BC overflow. -/
theorem test_v5_9 : vector [0xED, 0x4A] 0x0000 (fun g => { g with h := 0x7F, l := 0xFF, b := 0x00, c := 0x00, f := 0x01 }) [] []
    (fun g => { g with f := 0x94, h := 0x80, l := 0x00, r := 0x02, pc := 0x0002, wz := 0x8000, q := 0x94 }) [] [] 15 = true := by decide

/-- V5.11 (R326): LD (nn),BC. -/
theorem test_v5_11 : vector [0xED, 0x43, 0x00, 0x50] 0x0000 (fun g => { g with b := 0x12, c := 0x34 }) [] []
    (fun g => { g with r := 0x02, pc := 0x0004, wz := 0x5001 }) [(0x5000, 0x34), (0x5001, 0x12)] [] 20 = true := by decide

/-- V5.13 (R327): LD DE,(nn). -/
theorem test_v5_13 : vector [0xED, 0x5B, 0x00, 0x50] 0x0000 (fun g => g) [(0x5000, 0x34), (0x5001, 0x12)] []
    (fun g => { g with d := 0x12, e := 0x34, r := 0x02, pc := 0x0004, wz := 0x5001 }) [] [] 20 = true := by decide

/-- V5.15 (R328): RETN restores IFF1. -/
theorem test_v5_15 : vector [0xED, 0x45] 0x0000 (fun g => { g with sp := 0x8000, iff1 := false, iff2 := true }) [(0x8000, 0x34), (0x8001, 0x12)] []
    (fun g => { g with r := 0x02, sp := 0x8002, pc := 0x1234, wz := 0x1234, iff1 := true }) [] [] 14 = true := by decide

/-- V5.16 (R336): RETI. -/
theorem test_v5_16 : vector [0xED, 0x4D] 0x0000 (fun g => { g with sp := 0x8000, iff1 := false, iff2 := true }) [(0x8000, 0x34), (0x8001, 0x12)] []
    (fun g => { g with r := 0x02, sp := 0x8002, pc := 0x1234, wz := 0x1234, iff1 := true }) [] [] 14 = true := by decide

/-- V5.17 (R329): IM 1. -/
theorem test_v5_17 : vector [0xED, 0x56] 0x0000 (fun g => g) [] []
    (fun g => { g with r := 0x02, pc := 0x0002, im := .im1 }) [] [] 8 = true := by decide

/-- V5.20 (R330): NEG 01. -/
theorem test_v5_20 : vector [0xED, 0x44] 0x0000 (fun g => { g with a := 0x01, f := 0x00 }) [] []
    (fun g => { g with a := 0xFF, f := 0xBB, r := 0x02, pc := 0x0002, q := 0xBB }) [] [] 8 = true := by decide

/-- V5.23 (R331): LD I,A. -/
theorem test_v5_23 : vector [0xED, 0x47] 0x0000 (fun g => { g with a := 0x3F }) [] []
    (fun g => { g with i := 0x3F, r := 0x02, pc := 0x0002 }) [] [] 9 = true := by decide

/-- V5.24 (R332): LD R,A sets bit 7. -/
theorem test_v5_24 : vector [0xED, 0x4F] 0x0000 (fun g => { g with a := 0x80 }) [] []
    (fun g => { g with r := 0x80, pc := 0x0002 }) [] [] 9 = true := by decide

/-- V5.25 (R333): LD A,I with IFF2 = 1. -/
theorem test_v5_25 : vector [0xED, 0x57] 0x0000 (fun g => { g with i := 0x80, iff2 := true, f := 0x01 }) [] []
    (fun g => { g with a := 0x80, f := 0x85, r := 0x02, pc := 0x0002, q := 0x85 }) [] [] 9 = true := by decide

/-- V5.27 (R337): LD A,R (R after both fetches). -/
theorem test_v5_27 : vector [0xED, 0x5F] 0x0000 (fun g => { g with r := 0x7E, iff2 := false, f := 0x00 }) [] []
    (fun g => { g with a := 0x00, f := 0x40, r := 0x00, pc := 0x0002, q := 0x40 }) [] [] 9 = true := by decide

/-- V5.28 (R334): RRD. -/
theorem test_v5_28 : vector [0xED, 0x67] 0x0000 (fun g => { g with a := 0x12, h := 0x50, l := 0x00, f := 0x00 }) [(0x5000, 0x34)] []
    (fun g => { g with a := 0x14, f := 0x04, r := 0x02, pc := 0x0002, wz := 0x5001, q := 0x04 }) [(0x5000, 0x23)] [] 18 = true := by decide

/-- V5.29 (R335): RLD. -/
theorem test_v5_29 : vector [0xED, 0x6F] 0x0000 (fun g => { g with a := 0x12, h := 0x50, l := 0x00, f := 0x00 }) [(0x5000, 0x34)] []
    (fun g => { g with a := 0x13, r := 0x02, pc := 0x0002, wz := 0x5001 }) [(0x5000, 0x42)] [] 18 = true := by decide

/-- V5.30 (R340): ED 00 hole. -/
theorem test_v5_30 : vector [0xED, 0x00] 0x0000 (fun g => { g with a := 0x12, f := 0x34 }) [] []
    (fun g => { g with r := 0x02, pc := 0x0002 }) [] [] 8 = true := by decide

/-- V6.1 (R351): LDI. -/
theorem test_v6_1 : vector [0xED, 0xA0] 0x0000 (fun g => { g with h := 0x50, l := 0x00, d := 0x60, e := 0x00, b := 0x00, c := 0x02, a := 0x00, f := 0x00 }) [(0x5000, 0x28)] []
    (fun g => { g with f := 0x0C, c := 0x01, e := 0x01, l := 0x01, r := 0x02, pc := 0x0002, q := 0x0C }) [(0x6000, 0x28)] [] 16 = true := by decide

/-- V6.3 (R352): LDD. -/
theorem test_v6_3 : vector [0xED, 0xA8] 0x0000 (fun g => { g with h := 0x50, l := 0x01, d := 0x60, e := 0x01, b := 0x00, c := 0x03, a := 0x10, f := 0x00 }) [(0x5001, 0x08)] []
    (fun g => { g with f := 0x0C, c := 0x02, e := 0x00, l := 0x00, r := 0x02, pc := 0x0002, q := 0x0C }) [(0x6001, 0x08)] [] 16 = true := by decide

/-- V6.5 (R353): LDIR BC = 0 copies 65536 bytes: first step. -/
theorem test_v6_5 : vector [0xED, 0xB0] 0x1000 (fun g => { g with h := 0x50, l := 0x00, d := 0x60, e := 0x00, b := 0x00, c := 0x00, f := 0x00 }) [] []
    (fun g => { g with f := 0x2C, b := 0xFF, c := 0xFF, e := 0x01, l := 0x01, r := 0x02, wz := 0x1001, q := 0x2C }) [] [] 21 = true := by decide

/-- V6.7 (R355): CPI match. -/
theorem test_v6_7 : vector [0xED, 0xA1] 0x0000 (fun g => { g with a := 0x42, h := 0x50, l := 0x00, b := 0x00, c := 0x05, f := 0x01 }) [(0x5000, 0x42)] []
    (fun g => { g with f := 0x47, c := 0x04, l := 0x01, r := 0x02, pc := 0x0002, wz := 0x0001, q := 0x47 }) [] [] 16 = true := by decide

/-- V6.9 (R356): CPD. -/
theorem test_v6_9 : vector [0xED, 0xA9] 0x0000 (fun g => { g with a := 0x20, h := 0x50, l := 0x01, b := 0x00, c := 0x02, f := 0x00 }) [(0x5001, 0x11)] []
    (fun g => { g with f := 0x3E, c := 0x01, l := 0x00, r := 0x02, pc := 0x0002, wz := 0xFFFF, q := 0x3E }) [] [] 16 = true := by decide

/-- V6.12 (R359): INI. -/
theorem test_v6_12 : vector [0xED, 0xA2] 0x0000 (fun g => { g with b := 0x02, c := 0x10, h := 0x50, l := 0x00, f := 0x00 }) [] [(0x0210, 0x7F)]
    (fun g => { g with b := 0x01, l := 0x01, r := 0x02, pc := 0x0002, wz := 0x0211 }) [(0x5000, 0x7F)] [] 16 = true := by decide

/-- V6.13 (R360): IND. -/
theorem test_v6_13 : vector [0xED, 0xAA] 0x0000 (fun g => { g with b := 0x01, c := 0x10, h := 0x50, l := 0x00, f := 0x00 }) [] [(0x0110, 0x80)]
    (fun g => { g with f := 0x42, b := 0x00, h := 0x4F, l := 0xFF, r := 0x02, pc := 0x0002, wz := 0x010F, q := 0x42 }) [(0x5000, 0x80)] [] 16 = true := by decide

/-- V6.15 (R362): INDR B = 1. -/
theorem test_v6_15 : vector [0xED, 0xBA] 0x0000 (fun g => { g with b := 0x01, c := 0x10, h := 0x50, l := 0x01, f := 0x00 }) [] [(0x0110, 0x80)]
    (fun g => { g with f := 0x42, b := 0x00, l := 0x00, r := 0x02, pc := 0x0002, wz := 0x010F, q := 0x42 }) [(0x5001, 0x80)] [] 16 = true := by decide

/-- V6.16 (R363): OUTI. -/
theorem test_v6_16 : vector [0xED, 0xA3] 0x0000 (fun g => { g with b := 0x02, c := 0x10, h := 0x50, l := 0x00, f := 0x00 }) [(0x5000, 0x81)] []
    (fun g => { g with f := 0x06, b := 0x01, l := 0x01, r := 0x02, pc := 0x0002, wz := 0x0111, q := 0x06 }) [] [(0x0110, 0x81)] 16 = true := by decide

/-- V6.17 (R364): OUTD. -/
theorem test_v6_17 : vector [0xED, 0xAB] 0x0000 (fun g => { g with b := 0x01, c := 0x10, h := 0x50, l := 0x00, f := 0x00 }) [(0x5000, 0xFF)] []
    (fun g => { g with f := 0x57, b := 0x00, h := 0x4F, l := 0xFF, r := 0x02, pc := 0x0002, wz := 0x000F, q := 0x57 }) [] [(0x0010, 0xFF)] 16 = true := by decide

/-- V6.19 (R366): OTDR B = 1. -/
theorem test_v6_19 : vector [0xED, 0xBB] 0x0000 (fun g => { g with b := 0x01, c := 0x10, h := 0x50, l := 0x01, f := 0x00 }) [(0x5001, 0x33)] []
    (fun g => { g with f := 0x44, b := 0x00, l := 0x00, r := 0x02, pc := 0x0002, wz := 0x000F, q := 0x44 }) [] [(0x0010, 0x33)] 16 = true := by decide

/-! ### Interrupts, reset and the pins: section 2, 3 and the V7 rows of spec/95_test_vectors.md -/

/-- At a boundary that has chosen the entry `e`. -/
def atEntry (e : Entry) (g : Regs → Regs) (mem : List (Nat × Byte)) (device : List Byte) : State :=
  { State.reset with
    regs := g Regs.reset, mem := cells mem, intaIn := device, dec := { Decoder.reset with entry := e },
    cycle := some (.armed (if e = .int then .intAck else .fetch) (g Regs.reset).pc 0 0) }

/-- The entry's end: PC, SP, WZ, R, IFF1, IFF2, the two bytes pushed at 7FFE and 7FFF, and the T-states. -/
def entered (o : Out) (pc sp wz : Word) (r : Byte) (iff1 iff2 : Bool) (lo hi : Byte) (t : Nat) : Bool :=
  match o with
  | .next u => u.regs.pc == pc && u.regs.sp == sp && u.regs.wz == wz && u.regs.r == r && u.regs.iff1 == iff1 && u.regs.iff2 == iff2 &&
      u.mem.read 0x7FFE == lo && u.mem.read 0x7FFF == hi && u.tStates == t && !u.regs.halted
  | .fault _ => false
  | .refused _ => false

/-- V7.1, the second step. -/
theorem test_v7_1_nmi : entered (step (atEntry .nmi (fun g => { g with pc := 0x1235, sp := 0x8000, r := 1, iff1 := true, iff2 := true }) [] []))
    0x0066 0x7FFE 0x0066 0x02 false true 0x35 0x12 11 = true := by decide
/-- V7.3, the second step. -/
theorem test_v7_3_mode1 : entered (step (atEntry .int (fun g => { g with pc := 0x1235, sp := 0x8000, r := 1, im := .im1 }) [] [0xFF]))
    0x0038 0x7FFE 0x0038 0x02 false false 0x35 0x12 13 = true := by decide
/-- V7.5, the second step: an odd vector. -/
theorem test_v7_5_mode2 : entered (step (atEntry .int (fun g => { g with pc := 0x1235, sp := 0x8000, r := 1, im := .im2, i := 0x40 })
      [(0x40E2, 0x30)] [0xE1]))
    0x3000 0x7FFE 0x3000 0x02 false false 0x35 0x12 19 = true := by decide
/-- V7.6, the second step: RST 10 on the bus. -/
theorem test_v7_6_mode0 : entered (step (atEntry .int (fun g => { g with pc := 0x2001, sp := 0x8000, r := 1 }) [] [0xD7]))
    0x0010 0x7FFE 0x0010 0x02 false false 0x01 0x20 13 = true := by decide
/-- R382: any other byte is refused. -/
theorem test_mode0_refuses : step (atEntry .int (fun g => g) [] [0x00]) = .refused .im0NonRst := rfl

/-- What the boundary after a step chooses. -/
def chosen (o : Out) : Option Entry :=
  match o with
  | .next u => some u.dec.entry
  | .fault _ => none
  | .refused _ => none

/-- `s` with INT low. -/
def intLow (s : State) : State := { s with pins := { s.pins with level := { s.pins.level with int := false } } }

/-- A NOP, or another instruction, at 1000 with interrupts enabled or not. -/
def program (code : List Byte) (enabled : Bool) : State :=
  rowState code 0x1000 (fun g => { g with sp := 0x8000, iff1 := enabled, iff2 := enabled, im := .im1, f := 0x00 }) [] []

/-- V7.3, the first step: INT is accepted at the boundary after NOP. -/
theorem test_int_accepted : chosen (step (intLow (program [0x00] true))) = some .int := by decide
/-- V7.8: with IFF1 = 0 it is not. -/
theorem test_int_masked : chosen (step (intLow (program [0x00] false))) = some .none := by decide
/-- V7.7: nor at EI's own boundary. -/
theorem test_int_after_ei : chosen (step (intLow (program [0xFB] false))) = some .none := by decide
/-- V7.9: NMI wins. -/
theorem test_nmi_wins : chosen (step (intLow (program [0x00] true).triggerNmi)) = some .nmi := by decide

/-- The state after some calls of `clock`, each with RESET, BUSREQ and the data bus as given and all else inactive. -/
def driveCalls (s : State) (l : List (Bool × Bool × Byte)) : State :=
  match s.clocks (l.map fun p => { PinVec.idleLevels with reset := p.1, busreq := p.2.1, data := p.2.2 }) with
  | .next u => u
  | .fault _ => s
  | .refused _ => s

/-- E1: RESET low for two calls, then call 3: AF = SP = FFFF, A = 0000, M1 = 0. -/
theorem test_e1_reset : let u := driveCalls State.powerOn [(false, true, 0), (false, true, 0), (true, true, 0)]
    u.regs.af = 0xFFFF ∧ u.regs.sp = 0xFFFF ∧ u.pins.level.addr = 0 ∧ u.pins.level.m1 = false ∧ u.mode = .running := by decide

/-- B1: the opcode fetch of 3C at 1234, up to h = 4. -/
theorem test_b1_fetch :
    let s := { State.reset with regs := { Regs.reset with pc := 0x1234, i := 0x40, r := 0x7F } }
    let u := driveCalls s (List.replicate 5 (true, true, 0x3C))
    u.regs.instr = 0x3C ∧ u.pins.level.addr = 0x407F ∧ u.pins.level.rfsh = false ∧ u.pins.level.m1 = true ∧ u.regs.r = 0x00 ∧
      u.regs.pc = 0x1235 := by decide

/-- LD (HL),3C with HL = 5000 at 0000, up to the end of its two fetching cycles, 7 T-states. -/
def storeFetched : State :=
  driveCalls { State.reset with regs := { Regs.reset with h := 0x50 } } (List.replicate 8 (true, true, 0x36) ++ List.replicate 6 (true, true, 0x3C))

/-- B4: a memory write of 3C to 5000 (LD (HL),3C, after its 7 T-states of fetching) with BUSREQ low at its T3. -/
theorem test_b4_release :
    let pending := driveCalls storeFetched (List.replicate 4 (true, true, 0) ++ [(true, false, 0), (true, false, 0)])
    let released := driveCalls pending [(true, false, 0)]
    let retaken := driveCalls released [(true, false, 0), (true, true, 0)]
    let finished := driveCalls retaken [(true, true, 0)]
    pending.pins.level.wr = true ∧ pending.pins.level.mreq = true ∧ pending.flight.isSome = true ∧
      released.pins.level.busack = false ∧ released.pins.dir.addr = 0 ∧ retaken.pins.level.busack = true ∧
      retaken.pins.level.addr = 0x5000 ∧ finished.flight = none ∧ finished.mem.read 0x5000 = 0x3C ∧ finished.regs.pc = 0x0002 := by decide

/-- WAIT low at T2 of a fetch: the T-state repeats (R94). -/
theorem test_wait_repeats :
    let low : PinVec := { PinVec.idleLevels with wait := false }
    (match State.reset.clocks [.idleLevels, .idleLevels, .idleLevels, low, .idleLevels, .idleLevels] with
      | .next u => u.cycle.map (·.t)
      | .fault _ => none
      | .refused _ => none) = some 1 := by decide

/-- The state after some calls of `clock`, every input vector written out. -/
def calls (s : State) (l : List PinVec) : State :=
  match s.clocks l with
  | .next u => u
  | .fault _ => s
  | .refused _ => s

/-- R94, R100, R414: a memory write held by WAIT has WR low and its `t` back at 0, and is a write that RESET finds under way. -/
theorem test_wait_held_write : let u := calls storeFetched [.idleLevels, .idleLevels, .idleLevels, { PinVec.idleLevels with wait := false }]
    u.cycle.map (fun c => (c.kind, c.t)) = some (.memWrite, 0) ∧ u.pins.level.wr = false ∧ u.cycle.map Cycle.writing = some true := by decide

/-- R387, R110: a write put off by a bus release has run its wave form, and RESET on the next call leaves it in memory. -/
theorem test_reset_keeps_released_write :
    let pending := driveCalls storeFetched (List.replicate 4 (true, true, 0) ++ [(true, false, 0), (true, false, 0)])
    let u := driveCalls pending [(false, false, 0)]
    pending.mem.read 0x5000 = 0 ∧ u.mode = .reset ∧ u.mem.read 0x5000 = 0x3C := by decide

/-- R150, R379: the byte DD that an NMI entry's fetch reads is not decoded, and the entry's fillers and writes follow. -/
theorem test_nmi_entry_ignores_the_byte : let u := driveCalls (atEntry .nmi (fun g => { g with pc := 0x1235 }) [] []) (List.replicate 8 (true, true, 0xDD))
    u.dec = { Decoder.reset with entry := .nmi } ∧ u.regs.instr = 0xDD ∧ u.cycle.map (·.kind) = some .filler := by decide

/-- R41, R154: LD A,(IX+5) at the pin level, before its F(5) and after it: `disp_ready`, then `ea_ready`. -/
theorem test_ea_ready_at_the_pins :
    let before := driveCalls State.reset (List.replicate 8 (true, true, 0xDD) ++ List.replicate 8 (true, true, 0x7E) ++ List.replicate 6 (true, true, 0x05))
    let after := driveCalls before (List.replicate 10 (true, true, 0))
    before.dec.disp = 5 ∧ before.dec.dispReady = true ∧ before.dec.eaReady = false ∧ after.dec.eaReady = true ∧
      after.cycle.map (·.kind) = some .memRead := by decide

/-- R45, R96: one more byte of an endless prefix chain is a fetch that ends with I:R on the address lines, and the next fetch is armed at PC + 1. -/
theorem test_prefix_fetch_pins :
    let s := { State.reset with regs := { Regs.reset with pc := 0x1234, i := 0x40, r := 0x7F }, dataIn := [0xDD] }
    let u := s.openPins.fetchPrefix
    u.pins.level.addr = 0x407F ∧ u.pins.level.m1 = true ∧ u.dec.modifier = some .ix ∧ u.cycle.map (·.addr) = some 0x1235 := by decide

/-- The word that `withFetchWord` places is the instruction that the next step runs: HALT, and LDIR. -/
theorem test_with_fetch_word : (match step (State.reset.withFetchWord 8 0x76) with | .next u => u.regs.halted | .fault _ => false | .refused _ => false) = true ∧
    (match step (State.reset.withFetchWord 16 0xEDA0) with | .next u => u.regs.de == 1 && u.tStates == 16 | .fault _ => false | .refused _ => false) = true := by
  decide

/-! ### Witnesses: a state and operands for the hypotheses of each statement that has some, one for each clause -/

/-- JumpsComplete and CallsAndReturnsComplete: each condition holds of some flags and fails of others; DJNZ at B = 0, 1 and 2. -/
theorem witness_conditions : ([Cond.nz, .z, .nc, .c, .po, .pe, .p, .m].all fun cc => condHolds cc 0x00 != condHolds cc 0xFF) = true ∧
    ([JrCond.nz, .z, .nc, .c].all fun jc => condHolds (jrCondition jc) 0x00 != condHolds (jrCondition jc) 0xFF) = true ∧
    (0 : Byte) - 1 ≠ 0 ∧ (1 : Byte) - 1 = 0 ∧ (2 : Byte) - 1 ≠ 0 := by decide

/-- A state for the block instructions, with BC and A given; the byte at HL = 4000 is 7. -/
def blockState (b c a : Byte) : State :=
  { State.reset with regs := { Regs.reset with b := b, c := c, a := a, h := 0x40, d := 0x50 }, mem := cells [(0x4000, 7)] }

/-- BlockLoadsAndComparesComplete: BC = 1 ends, BC = 2 and BC = 0 repeat; a match, and none. -/
theorem witness_block_loads : (blockState 0 1 0).regs.bc - 1 = 0 ∧ (blockState 0 2 0).regs.bc - 1 ≠ 0 ∧ (blockState 0 0 0).regs.bc - 1 ≠ 0 ∧
    (blockState 0 2 7).regs.a = (blockState 0 2 7).busByte .mem 0x4000 ∧ (blockState 0 2 6).regs.a ≠ (blockState 0 2 6).busByte .mem 0x4000 := by decide

/-- BlockInputsAndOutputsComplete: B = 1 ends, B = 2 and B = 0 repeat. -/
theorem witness_block_io : (blockState 1 0 0).regs.b - 1 = 0 ∧ (blockState 2 0 0).regs.b - 1 ≠ 0 ∧ (blockState 0 0 0).regs.b - 1 ≠ 0 := by decide

/-- IgnoredPrefixRunsTheInstruction and DecodeEncodeRoundTrip: well-formed instructions. -/
theorem witness_wf : (Instr.ignored .ix .exDeHl).wf = true ∧ (Instr.retn 0).wf = true := by decide

/-- DecodeReadsOnlyEncodings and EveryOpcodeDecodes: bytes that decode, the longest opcode among them. -/
theorem witness_decode : decode [0xDD, 0xCB, 0x05, 0x46, 0xFF] = .ok (.bitIdx .ix 0x05 0 6) [0xFF] ∧ xyOf 0xCB = none := by decide

/-- StepRunsDecodedInstruction and IntIsMaskedAndDeferred: a running state whose bytes ahead decode. -/
theorem witness_step : (program [0x00] true).mode = .running ∧ (program [0x00] true).pins.level.reset = true ∧
    (program [0x00] true).flight = none ∧ (program [0x00] true).dec.entry = .none ∧ (program [0x00] true).regs.halted = false ∧
    ∃ rest, (program [0x00] true).decodeNext = .ok .nop rest :=
  ⟨rfl, rfl, rfl, rfl, rfl, _, rfl⟩

/-- StepRunsDecodedInstruction at the pin level: NOP, whose eighth half-edge ends its fetch and with it the instruction. -/
theorem witness_step_at_the_pins :
    let s := calls State.reset (List.replicate 7 .idleLevels)
    let m := { s with clk := false, pins := s.pins.merge .idleLevels }
    s.clk = true ∧ s.mode = .running ∧ m.pins.level.reset = true ∧ ∃ c u e fl rest v, s.cycle = some c ∧ m.fall c = .finished u e ∧
      u.flight = some fl ∧ (u.restart (fl.push e) []).dec.entry = .none ∧ (u.restart (fl.push e) []).regs.halted = false ∧
      (u.restart (fl.push e) []).decodeNext = .ok .nop rest ∧
      exec .nop ((u.restart (fl.push e) []).fetchInstr .nop) = .next v ∧ v.events.length = fl.cycles + 1 :=
  ⟨rfl, rfl, rfl, _, _, _, _, _, _, rfl, rfl, rfl, rfl, rfl, rfl, rfl, rfl⟩

/-- StepRunsInstructionInMemory: every hypothesis of it, by LD A,(IX+5) across the top of memory. -/
theorem witness_step_memory :
    let s := rowState [0xDD, 0x7E, 0x05] 0xFFFF (fun g => g) [] []
    let i := Instr.ldRIdx .a .ix 0x05
    s.mode = .running ∧ s.pins.level.reset = true ∧ s.flight = none ∧ s.dec.entry = .none ∧ s.dec.modifier = none ∧
      s.regs.halted = false ∧ s.dataIn = [] ∧ i.wf = true ∧ i.length ≤ Config.chainWindow ∧
      ∀ k (h : k < (encode i).length), s.mem.read (s.regs.pc + BitVec.ofNat 16 k).toNat = (encode i)[k] := by decide

/-- FetchMovesPcAndRefresh and TimingMatchesTable. -/
theorem witness_fetch : State.reset.regs.halted = false ∧ State.reset.dec.modifier = none ∧ State.reset.events = [] ∧
    (∃ t, exec .nop (State.reset.fetchInstr .nop) = .next t) := ⟨rfl, rfl, rfl, _, rfl⟩

/-- The frames, and QHoldsFlagsWritten: an instruction that completes, a register it does not write, and an INT entry that completes. -/
theorem witness_frames : (∃ t, exec (.addR .b) State.reset = .next t) ∧ RegName.b ∉ (Instr.addR .b).writes ∧ behindPrefixes (.addR .b) ≠ .ei ∧
    (0x4000 : Word) ∉ (Instr.ldMemA 0x4001).stores Regs.reset ∧
    (∃ t, (atEntry .int (fun g => { g with im := .im1 }) [] [0xFF]).intEntry = .next t) :=
  ⟨⟨_, rfl⟩, by decide, by decide, by decide, _, rfl⟩

/-- QIsReadOnlyByScfAndCcf and WzShowsOnlyInBitMem: Q = F, and Q = 0; instructions outside the exceptions. -/
theorem witness_q : behindPrefixes .daa ≠ .scf ∧ behindPrefixes .daa ≠ .ccf ∧ (∀ b, behindPrefixes .daa ≠ .bitMem b) ∧
    (State.reset.setRegs { Regs.reset with q := 0xFF }).regs.q = (State.reset.setRegs { Regs.reset with q := 0xFF }).regs.f ∧
    State.reset.regs.q = 0 := by
  refine ⟨by decide, by decide, ?_, rfl, rfl⟩
  intro b h
  cases h

/-- StackRoundTrips. -/
theorem witness_stack : (blockState 1 2 3).mem.wf = true ∧ (blockState 1 2 3).dataIn = [] ∧ (blockState 1 2 3).regs.halted = false := by decide

/-- LdirCopiesTheBlock: BC = 2 to another place, and the longest block, BC = 0 for 65 536 bytes onto itself. -/
theorem witness_ldir : (blockState 0 2 0).mem.wf = true ∧ (blockState 0 2 0).dataIn = [] ∧ (blockState 0 2 0).regs.bc = BitVec.ofNat 16 2 ∧
    (∀ j : Fin 2, ∀ k : Fin 2, k.val < j.val →
      (blockState 0 2 0).regs.hl + BitVec.ofNat 16 j ≠ (blockState 0 2 0).regs.de + BitVec.ofNat 16 k) := by decide

theorem witness_ldir_longest : State.reset.regs.bc = BitVec.ofNat 16 65536 ∧
    ∀ j k, k < j → j < 65536 → State.reset.regs.hl + BitVec.ofNat 16 j ≠ State.reset.regs.de + BitVec.ofNat 16 k := by
  refine ⟨by decide, fun j k h1 h2 h => ?_⟩
  have e : (0 : Word) + BitVec.ofNat 16 j = 0 + BitVec.ofNat 16 k := h
  have h3 := congrArg BitVec.toNat e
  simp at h3
  omega

/-- The invariant holds of a state at a boundary, running, of one in Reset, and of one that waits to enter an interrupt. -/
theorem witness_inv_running : Inv (program [0x00] true) := by constructor <;> decide
theorem witness_inv_reset : Inv State.powerOn ∧ State.powerOn.mode = .reset ∧ State.powerOn.clk = false ∧
    ({ State.powerOn with clk := true } : State).clk = true := ⟨by constructor <;> decide, rfl, rfl, rfl⟩
theorem witness_inv_nmi : Inv (atEntry .nmi (fun g => { g with sp := 0x0001 }) [] []) := by constructor <;> decide
theorem witness_inv_int : Inv (atEntry .int (fun g => { g with im := .im1 }) [] [0xD7]) := by constructor <;> decide

/-- StepKeepsInvariant and ClockKeepsInvariant: a step and a call that answer a next state. -/
theorem witness_next : (∃ t, step (program [0x00] true) = .next t) ∧ (∃ t, (program [0x00] true).clock .idleLevels = .next t) :=
  ⟨⟨_, rfl⟩, _, rfl⟩

/-- EnterReset, and LeaveReset's step with RESET low. -/
theorem witness_enter_reset : State.reset.pins.dir.reset = false ∧ ({ PinVec.idleLevels with reset := false } : PinVec).reset = false ∧
    ({ State.reset.pins.level with reset := false } : PinVec).reset = false := by decide

/-- ArbitrationAtEveryBoundary: the bytes ahead hold an instruction, which runs with IFF1 = 1; each choice occurs (test_int_accepted,
test_int_masked, test_nmi_wins, and after an NMI entry with INT low, below). -/
theorem witness_arbitration : ∃ i rest u, (program [0x00] true).rewind.decodeNext = .ok i rest ∧ behindPrefixes i ≠ .ei ∧
    exec i ((program [0x00] true).rewind.fetchInstr i) = .next u ∧ u.regs.iff1 = true :=
  ⟨.nop, _, _, rfl, by decide, rfl, rfl⟩

/-- R386, R390: no INT at the boundary that ends an NMI entry, with INT low and IFF1 = 1 before the entry. -/
theorem test_no_int_after_nmi_entry :
    chosen (step (intLow (atEntry .nmi (fun g => { g with sp := 0x8000, iff1 := true, iff2 := true }) [] []))) = some .none := by decide

/-- V7, R375: after RETN, IFF2 decides: with it 1 the waiting INT is accepted, with it 0 it is not. -/
theorem test_int_after_retn :
    let s := fun (iff2 : Bool) => intLow (rowState [0xED, 0x45] 0x1000 (fun g => { g with sp := 0x8000, iff2 := iff2 }) [] [])
    chosen (step (s true)) = some .int ∧ chosen (step (s false)) = some .none := by decide

/-- IntIsMaskedAndDeferred: NOP behind no prefix, EI, and INT low with IFF1 = 1 and no NMI. -/
theorem witness_int : behindPrefixes .nop ≠ .ei ∧ behindPrefixes .nop ≠ .di ∧ behindPrefixes .nop ≠ .reti ∧ (∀ y, behindPrefixes .nop ≠ .retn y) ∧
    behindPrefixes (.ignored .ix .ei) = .ei ∧ (intLow (program [0x00] true)).regs.iff1 = true ∧
    (intLow (program [0x00] true)).nmiPending = false ∧ (intLow (program [0x00] true)).pins.level.int = false ∧
    (program [0x00] false).regs.iff1 = false ∧ behindPrefixes (.retn 0) = .retn 0 ∧
    (∃ rest, (program [0xF3] true).decodeNext = .ok .di rest) ∧ (∃ rest, (program [0xED, 0x4D] true).decodeNext = .ok .reti rest) :=
  ⟨by decide, by decide, by decide, by decide, by decide, by decide, by decide, by decide, by decide, by decide, ⟨_, rfl⟩, _, rfl⟩

/-- IntEntryEffect: a byte that is an RST and one that is none, in each mode. -/
theorem witness_int_entry : (atEntry .int (fun g => g) [] [0xC7]).busByte .inta 0 &&& 0xC7 = 0xC7 ∧
    (atEntry .int (fun g => g) [] [0xC6]).busByte .inta 0 &&& 0xC7 ≠ 0xC7 ∧ (atEntry .int (fun g => g) [] [0xC7]).regs.im = .im0 ∧
    (atEntry .int (fun g => { g with im := .im2 }) [] [0xC7]).regs.im = .im2 ∧ (atEntry .int (fun g => g) [] [0xC7]).dataIn = [] := by decide

/-- ClockReadsItsInputs: two vectors that differ, and agree on the pins not driven after reset; and a falling edge in Reset. -/
theorem witness_clock_inputs : (∀ n, State.reset.pins.dir.get n = false → PinVec.idleLevels.get n = ({ PinVec.idleLevels with m1 := false } : PinVec).get n) ∧
    PinVec.idleLevels ≠ { PinVec.idleLevels with m1 := false } ∧
    ({ State.powerOn with clk := true } : State).mode = .reset ∧ State.powerOn.pins.dir.reset = false ∧ PinVec.idleLevels.reset = true := by
  refine ⟨?_, by decide, rfl, rfl, rfl⟩
  intro n h
  cases n <;> first | rfl | exact absurd h (by decide)

/-- HaltedCoreOnlyFetches. -/
theorem witness_halted : Inv { State.reset with regs := { Regs.reset with halted := true } } := by constructor <;> decide

/-- RefreshCountsM1Cycles. -/
theorem witness_refresh : behindPrefixes .nop ≠ .ldRA ∧ ∃ t, exec .nop State.reset = .next t := ⟨by decide, _, rfl⟩

/-- HostCallsBehave: at a boundary, in Reset, and in the middle of an instruction. -/
theorem witness_host_calls : State.reset.atBoundary = true ∧ State.powerOn.mode = .reset ∧
    (driveCalls State.reset [(true, true, 0)]).mode = .running ∧ (driveCalls State.reset [(true, true, 0)]).atBoundary = false := by decide

/-- CycleLengths, CycleWaveforms: an armed cycle of each kind, with WAIT and BUSREQ inactive. -/
theorem witness_cycle : (Cycle.armed .ioRead 0x12FE 0 0).t = -1 ∧ (Cycle.armed .filler 0 0 1).release = .none ∧
    (Cycle.armed .filler 0 0 1).releaseStaged = false ∧ 0 < (Cycle.armed .filler 0 0 1).fillT ∧ State.reset.pins.level.wait = true ∧
    State.reset.pins.level.busreq = true := by decide

/-- WaitRepeatsTheTState and BusReleaseAndRetake: a cycle at each place, and a running core with no cycle. -/
theorem witness_wait_and_release : ({ Cycle.armed .fetch 0 0 0 with t := 1 } : Cycle).t = 1 ∧
    ({ PinVec.idleLevels with wait := false } : PinVec).wait = false ∧
    ({ Cycle.armed .memWrite 0 0 0 with t := 2, releaseStaged := true } : Cycle).t + 1 = (Cycle.armed .memWrite 0 0 0).nominal ∧
    ({ Cycle.armed .memWrite 0 0 0 with t := 2, release := .pending } : Cycle).release = .pending ∧
    ({ State.reset with cycle := none } : State).mode = .running := by decide

/-- PinLayoutRoundTrip: the pins in the order of R44. -/
theorem witness_layout : PinLayout.valid PinName.all = true := by decide

end Sys2Proof.Tests
end

section
/-! PROOFS. Raw pin words under a valid layout (spec/00_scope.md R8). -/

namespace Sys2Proof.Machine

theorem bit01_add_two_mul (b : Bool) (n : Nat) : bit01 b + 2 * n = Nat.bit b n := by
  cases b <;> simp [bit01, Nat.bit, Nat.add_comm]

/-- The bits of a packed word are the levels, from bit 0 up. -/
theorem testBit_foldr_bit01 (l : List Bool) (k : Nat) :
    (l.foldr (fun b acc => bit01 b + 2 * acc) 0).testBit k = l.getD k false := by
  induction l generalizing k with
  | nil => simp
  | cons b l ih =>
    rw [List.foldr_cons, bit01_add_two_mul]
    cases k with
    | zero => simp
    | succ k => simp [Nat.testBit_bit_succ, ih]

/-- A valid layout names every pin. -/
theorem PinName.mem_of_valid {lay : PinLayout} (h : lay.valid = true) (p : PinName) : p ∈ lay := by
  have hall : p ∈ PinName.all := by cases p <;> simp [PinName.all]
  simp only [PinLayout.valid, Bool.and_eq_true, List.all_eq_true] at h
  simpa using h.2 p hall

theorem PinVec.ofLevels_get (v : PinVec) : PinVec.ofLevels v.get = v := by
  have addr : BitVec.ofFnLE (fun n => v.addr.getLsbD n) = v.addr := by ext; simp
  have data : BitVec.ofFnLE (fun n => v.data.getLsbD n) = v.data := by ext; simp
  cases v
  simp only [PinVec.ofLevels, PinVec.get, addr, data]

theorem PinLayout.testBit_pack (lay : PinLayout) (v : PinVec) {p : PinName} (h : p ∈ lay) :
    (lay.pack v).testBit (lay.idxOf p) = v.get p := by
  simp [PinLayout.pack, testBit_foldr_bit01, h]

/-- Settles O60: each pin is read back at its own bit position. -/
theorem pinLayoutRoundTrip : Obligations.PinLayoutRoundTrip := by
  intro lay v h
  have levels : (fun p => (lay.pack v).testBit (lay.idxOf p)) = v.get :=
    funext fun p => lay.testBit_pack v (PinName.mem_of_valid h p)
  rw [PinLayout.unpack, levels, PinVec.ofLevels_get]

end Sys2Proof.Machine
end

section
/-! PROOFS. A rule for each operation that a meaning is written in: which bus cycles it makes, and that beside them it changes registers only (R125). -/

namespace Sys2Proof.Machine

/-! ### Bus cycles: what they leave unchanged, and how long they take -/

@[simp] theorem State.onBus_nil (s : State) : s.onBus [] = s := rfl

@[simp] theorem State.onBus_cons (s : State) (e : BusEvent) (ev : List BusEvent) : s.onBus (e :: ev) = (s.busCycle e).onBus ev := rfl

/-- A bus cycle changes the host's side alone, and is recorded. -/
theorem State.busCycle_frame (s : State) (e : BusEvent) :
    s.busCycle e = { s with
      mem := (s.busCycle e).mem, dataIn := (s.busCycle e).dataIn, portIn := (s.busCycle e).portIn, portOut := (s.busCycle e).portOut,
      intaIn := (s.busCycle e).intaIn, freeCtr := (s.busCycle e).freeCtr, events := e :: s.events } := by
  cases e <;> rfl

/-- Bus cycles change the host's side alone, and are recorded. -/
theorem State.onBus_frame (s : State) (ev : List BusEvent) :
    s.onBus ev = { s with
      mem := (s.onBus ev).mem, dataIn := (s.onBus ev).dataIn, portIn := (s.onBus ev).portIn, portOut := (s.onBus ev).portOut,
      intaIn := (s.onBus ev).intaIn, freeCtr := (s.onBus ev).freeCtr, events := ev.reverse ++ s.events } := by
  induction ev generalizing s with
  | nil => rfl
  | cons e ev ih =>
    rw [State.onBus_cons, ih, State.busCycle_frame]
    simp

/-- Bus cycles do not depend on the registers. -/
theorem State.onBus_setRegs (s : State) (r : Regs) (ev : List BusEvent) : (s.setRegs r).onBus ev = (s.onBus ev).setRegs r := by
  induction ev generalizing s with
  | nil => rfl
  | cons e ev ih =>
    have first : (s.setRegs r).busCycle e = (s.busCycle e).setRegs r := by cases e <;> rfl
    simp [first, ih]

/-- The T-states of bus cycles (R105). -/
def busTime (ev : List BusEvent) : Nat := (ev.map BusEvent.tStates).sum

@[simp] theorem busTime_nil : busTime [] = 0 := rfl
@[simp] theorem busTime_cons (e : BusEvent) (ev : List BusEvent) : busTime (e :: ev) = e.tStates + busTime ev := by simp [busTime]
@[simp] theorem busTime_append (ev ev2 : List BusEvent) : busTime (ev ++ ev2) = busTime ev + busTime ev2 := by simp [busTime]
@[simp] theorem BusEvent.tStates_memRead (a : Word) (v : Byte) : (BusEvent.memRead a v).tStates = 3 := rfl
@[simp] theorem BusEvent.tStates_memWrite (a : Word) (v : Byte) : (BusEvent.memWrite a v).tStates = 3 := rfl
@[simp] theorem BusEvent.tStates_ioRead (p : Word) (v : Byte) : (BusEvent.ioRead p v).tStates = 4 := rfl
@[simp] theorem BusEvent.tStates_ioWrite (p : Word) (v : Byte) : (BusEvent.ioWrite p v).tStates = 4 := rfl
@[simp] theorem BusEvent.tStates_filler (n : Nat) : (BusEvent.filler n).tStates = n := rfl
@[simp] theorem busTime_wordCycles (s : State) (a : Word) : busTime (s.wordCycles a) = 6 := rfl
@[simp] theorem busTime_pushCycles (sp v : Word) : busTime (pushCycles sp v) = 6 := rfl

theorem State.tStates_eq (s : State) : s.tStates = busTime s.events := rfl

@[simp] theorem State.onBus_tStates (s : State) (ev : List BusEvent) : (s.onBus ev).tStates = busTime ev + s.tStates := by
  rw [State.tStates_eq, State.onBus_frame]
  simp [busTime, State.tStates_eq]

/-! ### A rule for each operation that a meaning is written in -/

/-- A meaning that answers `o` completes from `s` after the bus cycles `ev`, in this order; beside them it changes registers only (R125). -/
def Completes (s : State) (ev : List BusEvent) (o : Out) : Prop := ∃ r, o = .next ((s.onBus ev).setRegs r)

/-- The state once its indexed address is computed, as far as the decoder goes (R154). -/
def State.eaReady (s : State) : State := { s with dec := s.dec.eaComputed }

section
variable {s : State} {ev : List BusEvent} {o : Out} {a : Word} {v : Byte} {n : Nat}

theorem completes_done (s : State) : Completes s [] s.done := ⟨_, rfl⟩

theorem completes_doneFlags (s : State) (f : Flags) : Completes s [] (s.doneFlags f) := ⟨_, rfl⟩

theorem Completes.setRegs {r : Regs} (h : Completes (s.setRegs r) ev o) : Completes s ev o := by
  obtain ⟨r', h⟩ := h
  exact ⟨r', by rw [h, State.onBus_setRegs]; rfl⟩

theorem Completes.fill (h : Completes (s.fill n) ev o) : Completes s (.filler n :: ev) o := h

theorem Completes.writeMem (h : Completes (s.writeMem a v) ev o) : Completes s (.memWrite a v :: ev) o := h

theorem Completes.writePort (h : Completes (s.writePort a v) ev o) : Completes s (.ioWrite a v :: ev) o := h

theorem Completes.readMem {f : Byte → State → Out} (h : Completes (s.afterRead a) ev (f (s.busByte .mem a) (s.afterRead a))) :
    Completes s (.memRead a (s.busByte .mem a) :: ev) (s.readMem a f) := h

theorem Completes.readPort {f : Byte → State → Out} (h : Completes (s.afterIn a) ev (f (s.busByte .io a) (s.afterIn a))) :
    Completes s (.ioRead a (s.busByte .io a) :: ev) (s.readPort a f) := h

theorem Completes.read16 {f : Word → State → Out}
    (h : Completes ((s.afterRead a).afterRead (a + 1)) ev (f (s.word a) ((s.afterRead a).afterRead (a + 1)))) :
    Completes s (s.wordCycles a ++ ev) (s.read16 a f) := by
  unfold State.read16
  exact .readMem (.readMem h)

theorem Completes.write16 {w : Word} (h : Completes (s.write16 a w) ev o) :
    Completes s (.memWrite a (lo8 w) :: .memWrite (a + 1) (hi8 w) :: ev) o := h

theorem Completes.push {w : Word} (h : Completes (s.push w) ev o) : Completes s (pushCycles s.regs.sp w ++ ev) o :=
  .writeMem (.writeMem (.setRegs h))

theorem Completes.pop {f : Word → State → Out}
    (h : Completes (((s.afterRead s.regs.sp).afterRead (s.regs.sp + 1)).setRegs { s.regs with sp := s.regs.sp + 2 }) ev
      (f (s.word s.regs.sp) (((s.afterRead s.regs.sp).afterRead (s.regs.sp + 1)).setRegs { s.regs with sp := s.regs.sp + 2 }))) :
    Completes s (s.wordCycles s.regs.sp ++ ev) (s.pop f) := .read16 (.setRegs h)

theorem Completes.indexed {x : XY} {d : Byte} {f : Word → State → Out}
    (h : Completes ((s.eaReady.setWz (s.regs.ea x d)).fill n) ev (f (s.regs.ea x d) ((s.eaReady.setWz (s.regs.ea x d)).fill n))) :
    Completes s.eaReady (.filler n :: ev) (s.indexed x d n f) := .setRegs (.fill h)

end

/-! ### The operations that several meanings share -/

theorem completes_setRegs (s : State) (r : Regs) : Completes s [] (s.setRegs r).done := .setRegs (completes_done _)

theorem completes_setRegs_flags (s : State) (r : Regs) (f : Flags) : Completes s [] ((s.setRegs r).doneFlags f) :=
  .setRegs (completes_doneFlags _ _)

theorem completes_jumpRel (s : State) (e : Byte) : Completes s [.filler 5] (s.jumpRel e).done := .fill (completes_setRegs _ _)

theorem completes_callTo (s : State) (w : Word) : Completes s (.filler 1 :: pushCycles s.regs.sp s.regs.pc) (s.callTo w).done :=
  .fill (.push (completes_setRegs _ _))

theorem completes_popPc (s : State) : Completes s (s.wordCycles s.regs.sp) s.popPc := .pop (completes_setRegs _ _)

theorem completes_returnFromInterrupt (s : State) : Completes s (s.wordCycles s.regs.sp) s.returnFromInterrupt.done := ⟨_, rfl⟩

theorem completes_modifyMem (s : State) (a : Word) (g : Byte → Flags → Byte × Flags) :
    Completes s [.memRead a (s.busByte .mem a), .filler 1, .memWrite a (g (s.busByte .mem a) s.flags).1] (s.modifyMem a g) :=
  .readMem (.fill (.writeMem (completes_doneFlags _ _)))

theorem completes_rewriteMem (s : State) (a : Word) (g : Byte → Byte) :
    Completes s [.memRead a (s.busByte .mem a), .filler 1, .memWrite a (g (s.busByte .mem a))] (s.rewriteMem a g) :=
  .readMem (.fill (.writeMem (completes_done _)))

/-- The filler of a block instruction that repeats (R350). -/
def repeatFiller (again : Bool) : List BusEvent := if again then [.filler 5] else []

@[simp] theorem busTime_repeatFiller (again : Bool) : busTime (repeatFiller again) = if again then 5 else 0 := by cases again <;> rfl

theorem completes_repeatBlock (s : State) (again wz : Bool) (f : Flags) :
    Completes s (repeatFiller again) ((if again then s.repeatBlock wz else s).doneFlags f) := by
  cases again
  · exact completes_doneFlags _ _
  · exact .fill (completes_setRegs_flags _ _ _)

theorem completes_blockLoad (s : State) (dir : Dir) (again : Bool) :
    Completes s ([BusEvent.memRead s.regs.hl (s.busByte .mem s.regs.hl), BusEvent.memWrite s.regs.de (s.busByte .mem s.regs.hl),
        BusEvent.filler 2] ++ repeatFiller (again && s.regs.bc - 1 != 0)) (s.blockLoad dir again) := by
  unfold State.blockLoad
  exact .readMem (.writeMem (.fill (.setRegs (completes_repeatBlock _ _ _ _))))

theorem completes_blockCompare (s : State) (dir : Dir) (again : Bool) :
    Completes s ([BusEvent.memRead s.regs.hl (s.busByte .mem s.regs.hl), BusEvent.filler 5] ++
      repeatFiller (again && s.regs.bc - 1 != 0 && s.regs.a != s.busByte .mem s.regs.hl)) (s.blockCompare dir again) := by
  unfold State.blockCompare
  exact .readMem (.fill (.setRegs (completes_repeatBlock _ _ _ _)))

theorem completes_blockIn (s : State) (dir : Dir) (again : Bool) :
    Completes s ([BusEvent.filler 1, BusEvent.ioRead s.regs.bc (s.busByte .io s.regs.bc),
        BusEvent.memWrite s.regs.hl (s.busByte .io s.regs.bc)] ++ repeatFiller (again && s.regs.b - 1 != 0)) (s.blockIn dir again) := by
  unfold State.blockIn
  exact .fill (.readPort (.writeMem (.setRegs (completes_repeatBlock _ _ _ _))))

theorem completes_blockOut (s : State) (dir : Dir) (again : Bool) :
    Completes s ([BusEvent.filler 1, BusEvent.memRead s.regs.hl (s.busByte .mem s.regs.hl),
        BusEvent.ioWrite (mk16 (s.regs.b - 1) s.regs.c) (s.busByte .mem s.regs.hl)] ++
      repeatFiller (again && s.regs.b - 1 != 0)) (s.blockOut dir again) := by
  unfold State.blockOut
  exact .fill (.readMem (.writePort (.setRegs (completes_repeatBlock _ _ _ _))))

end Sys2Proof.Machine
end

section
/-! PROOFS. The fields of an opcode byte, and the T-states of the fetch of an encoding (R140, R151). -/

namespace Sys2Proof.Machine

/-! ### The fields of an opcode byte -/

@[simp] theorem fieldX_opYZ (x : BitVec 2) (y z : BitVec 3) : fieldX (opYZ x y z) = x := by revert x y z; decide
@[simp] theorem fieldY_opYZ (x : BitVec 2) (y z : BitVec 3) : fieldY (opYZ x y z) = y := by revert x y z; decide
@[simp] theorem fieldZ_opYZ (x : BitVec 2) (y z : BitVec 3) : fieldZ (opYZ x y z) = z := by revert x y z; decide
theorem opYZ_fields (b : Byte) : opYZ (fieldX b) (fieldY b) (fieldZ b) = b := by revert b; decide

/-- An opcode byte is known by its three fields (R140). -/
@[simp] theorem opYZ_eq_iff (x : BitVec 2) (y z : BitVec 3) (b : Byte) : opYZ x y z = b ↔ x = fieldX b ∧ y = fieldY b ∧ z = fieldZ b := by
  constructor
  · rintro rfl
    simp
  · rintro ⟨rfl, rfl, rfl⟩
    exact opYZ_fields b

@[simp] theorem opPQ_eq_opYZ (x p : BitVec 2) (q : BitVec 1) (z : BitVec 3) : opPQ x p q z = opYZ x (p ++ q) z := by
  revert x p q z; decide

@[simp] theorem xyOf_eq_none_iff (b : Byte) : xyOf b = none ↔ b ≠ 0xDD ∧ b ≠ 0xFD := by
  unfold xyOf
  split <;> simp_all

@[simp] theorem xyOf_byte (x : XY) : xyOf x.byte = some x := by cases x <;> rfl

/-! ### The T-states of a fetch (R96, R98, R103, R151) -/

def FetchCycle.tStates : FetchCycle → Nat
  | .opcode => 4
  | .operand => 3
  | .filler n => n

/-- The T-states of the cycles that fetch the bytes of one encoding. -/
def fetchTime (bs : List Byte) : Nat := ((fetchCycles bs).map FetchCycle.tStates).sum

theorem sum_tStates_operands (bs : List Byte) : ((bs.map fun _ => FetchCycle.operand).map FetchCycle.tStates).sum = 3 * bs.length := by
  simp [FetchCycle.tStates, Nat.mul_comm]

/-- An opcode of the main table, DJNZ apart, is one M1 fetch; its operands are memory reads. -/
@[simp] theorem fetchTime_main {b : Byte} (tail : List Byte) (hxy : xyOf b = none) (hcb : b ≠ 0xCB) (hed : b ≠ 0xED) (hdjnz : b ≠ 0x10) :
    fetchTime (b :: tail) = 4 + 3 * tail.length := by
  rw [fetchTime, fetchCycles.eq_def]
  simp only [hxy, decide_eq_false hcb, decide_eq_false hed, Bool.or_false, Bool.false_eq_true, if_false, if_neg hdjnz,
    List.map_cons, List.sum_cons, sum_tStates_operands, FetchCycle.tStates]

@[simp] theorem fetchTime_djnz (tail : List Byte) : fetchTime (0x10#8 :: tail) = 5 + 3 * tail.length := by
  rw [← sum_tStates_operands]
  simp [fetchTime, fetchCycles, xyOf, FetchCycle.tStates]
  omega

@[simp] theorem fetchTime_cb (op : Byte) (rest : List Byte) : fetchTime (0xCB#8 :: op :: rest) = 8 + 3 * rest.length := by
  rw [← sum_tStates_operands]
  simp [fetchTime, fetchCycles, xyOf, FetchCycle.tStates]
  omega

@[simp] theorem fetchTime_ed (op : Byte) (rest : List Byte) : fetchTime (0xED#8 :: op :: rest) = 8 + 3 * rest.length := by
  rw [← sum_tStates_operands]
  simp [fetchTime, fetchCycles, xyOf, FetchCycle.tStates]
  omega

@[simp] theorem fetchTime_xyCb (x : XY) (rest : List Byte) : fetchTime (x.byte :: 0xCB#8 :: rest) = 8 + 3 * rest.length := by
  rw [← sum_tStates_operands]
  simp [fetchTime, fetchCycles, FetchCycle.tStates]
  omega

@[simp] theorem fetchTime_xy (x : XY) {op : Byte} (rest : List Byte) (h : op ≠ 0xCB) :
    fetchTime (x.byte :: op :: rest) = 4 + fetchTime (op :: rest) := by
  simp only [fetchTime, fetchCycles, xyOf_byte, if_neg h, List.map_cons, List.sum_cons, FetchCycle.tStates]

@[simp] theorem JrCond.code_ne_two (cc : JrCond) : cc.code ≠ 2#3 := by cases cc <;> decide


@[simp] theorem XY.byte_ne_cb (x : XY) : x.byte ≠ 0xCB#8 := by cases x <;> decide

/-- CB heads no encoding but those of the CB table, whose meanings an index modifier changes (R144). -/
theorem encode_head_ne_cb (i : Instr) (h : i.takesIndex = false) : ∃ b tail, encode i = b :: tail ∧ b ≠ 0xCB := by
  cases i
  case rlcR | rlcMem | rrcR | rrcMem | rlR | rlMem | rrR | rrMem | slaR | slaMem | sraR | sraMem | sllR | sllMem | srlR | srlMem
      | bitR | bitMem | resR | resMem | setR | setMem => cases h
  all_goals
    refine ⟨_, _, rfl, ?_⟩
    simp [fieldX, fieldY, fieldZ]

/-- A DD or FD byte that has no effect is one more M1 fetch (R152, R238). -/
theorem fetchTime_ignored (x : XY) (i : Instr) (h : i.takesIndex = false) :
    fetchTime (encode (.ignored x i)) = 4 + fetchTime (encode i) := by
  obtain ⟨b, tail, e, hb⟩ := encode_head_ne_cb i h
  rw [encode, e, fetchTime_xy x tail hb]

end Sys2Proof.Machine
end

section
/-! PROOFS. Every meaning at once: the control state it leaves (R6, R376) and the time it takes (R420). -/

namespace Sys2Proof.Machine

/-- Behind a DD or FD byte that has no effect the instruction itself runs (R238). -/
@[simp] theorem exec_ignored (x : XY) (i : Instr) (s : State) : exec (.ignored x i) s = exec i s := by
  cases i <;> rfl

/-! ### Every meaning is bus cycles and a register transform, in a time that the table lists -/

/-- The meaning of `i` answers `o`: bus cycles and a register transform (R125), from `s` itself, from `s` with its indexed address computed (R154), or,
of EI, from `s` with `skip_int` set (R376). With the fetch the cycles take a time that the table of R420 lists. -/
def Performs (i : Instr) (s : State) (o : Out) : Prop :=
  ∃ s1 ev, Completes s1 ev o ∧ (s1 = s ∨ s1 = s.eaReady ∨ (behindPrefixes i = .ei ∧ s1 = { s with skipInt := true })) ∧
    (i.wf = true → fetchTime (encode i) + busTime ev ∈ i.tTotals)

section
variable {i : Instr} {s : State} {ev : List BusEvent} {o : Out} {n : Nat}

theorem Performs.plain (h : Completes s ev o) (listed : n ∈ i.tTotals)
    (time : fetchTime (encode i) + busTime ev = n := by simp [encode, fieldX, fieldY, fieldZ]) : Performs i s o :=
  ⟨s, ev, h, .inl rfl, fun _ => time ▸ listed⟩

theorem Performs.indexed (h : Completes s.eaReady ev o) (listed : n ∈ i.tTotals)
    (time : fetchTime (encode i) + busTime ev = n := by simp [encode, fieldX, fieldY, fieldZ]) : Performs i s o :=
  ⟨s.eaReady, ev, h, .inr (.inl rfl), fun _ => time ▸ listed⟩

theorem Performs.ei (h : Completes { s with skipInt := true } ev o) (hi : behindPrefixes i = .ei) (listed : n ∈ i.tTotals)
    (time : fetchTime (encode i) + busTime ev = n := by simp [encode, fieldX, fieldY, fieldZ]) : Performs i s o :=
  ⟨_, ev, h, .inr (.inr ⟨hi, rfl⟩), fun _ => time ▸ listed⟩

/-- A block instruction, whose last filler stands only where it repeats (R350). -/
theorem Performs.repeating {c : Bool} (h : Completes s (ev ++ repeatFiller c) o) (listed : i.tTotals = [n + 5, n])
    (time : fetchTime (encode i) + busTime ev = n := by simp [encode]) : Performs i s o := by
  refine ⟨s, _, h, .inl rfl, fun _ => ?_⟩
  cases c <;> simp [listed, ← time, ← Nat.add_assoc]

theorem Performs.ignored {x : XY} (h : Performs i s o) : Performs (.ignored x i) s o := by
  obtain ⟨s1, ev, hc, hs, time⟩ := h
  refine ⟨s1, ev, hc, hs, fun hwf => ?_⟩
  simp only [Instr.wf, Bool.and_eq_true, Bool.not_eq_true'] at hwf
  have listed : (fetchTime (encode i) + busTime ev) + 4 ∈ (Instr.ignored x i).tTotals := List.mem_map_of_mem (time hwf.2)
  rw [fetchTime_ignored x i hwf.1]
  convert listed using 1
  omega
end

/-- One row per order of bus cycles. -/
theorem exec_performs (i : Instr) (s : State) : Performs i s (exec i s) := by
  induction i with
  | ignored x i ih => rw [exec_ignored]; exact ih.ignored
  | _ => ?_
  all_goals unfold exec
  case nop | nopEd7 | holeX0 | holeX3 | holeX2LowY | holeX2HighZ =>
    simp only [execNop, execNopEd7, execHoleX0, execHoleX3, execHoleX2LowY, execHoleX2HighZ]
    exact .plain (completes_done _) (.head _)
  case exAfAf | ldRpNn | ldXyNn | ldRN | ldHalfN | ldRR | ldRRXy | exx | jpHl | jpXy | jp | exDeHl | di | resR | setR | im =>
    simp only [execExAfAf, execLdRpNn, execLdXyNn, execLdRN, execLdHalfN, execLdRR, execLdRRXy, execExx, execJpHl, execJpXy, execJp, execExDeHl,
      execDi, execResR, execSetR, execIm]
    exact .plain (completes_setRegs _ _) (.head _)
  case halt | haltXy =>
    simp only [execHalt, execHaltXy, State.setHalted]
    exact .plain (completes_setRegs _ _) (.head _)
  case jr =>
    simp only [execJr]
    exact .plain (completes_jumpRel _ _) (.head _)
  case addHlRp | addXyRp | sbcHlRp | adcHlRp | ldAI | ldAR =>
    simp only [execAddHlRp, execAddXyRp, execSbcHlRp, execAdcHlRp, execLdAI, execLdAR]
    exact .plain (.fill (completes_setRegs_flags _ _ _)) (.head _)
  case incRp | incXy | decRp | decXy | ldSpHl | ldSpXy | ldIA | ldRA =>
    simp only [execIncRp, execIncXy, execDecRp, execDecXy, execLdSpHl, execLdSpXy, execLdIA, execLdRA]
    exact .plain (.fill (completes_setRegs _ _)) (.head _)
  case ldPairA | ldMemA =>
    simp only [execLdPairA, execLdMemA]
    exact .plain (.writeMem (completes_setRegs _ _)) (.head _)
  case ldMemHl | ldMemXy | ldMemRp =>
    simp only [execLdMemHl, execLdMemXy, execLdMemRp]
    exact .plain (.write16 (completes_setRegs _ _)) (.head _)
  case ldAPair | ldAMem | ldRMem =>
    simp only [execLdAPair, execLdAMem, execLdRMem]
    exact .plain (.readMem (completes_setRegs _ _)) (.head _)
  case ldHlMem | ldXyMem | ldRpMem =>
    simp only [execLdHlMem, execLdXyMem, execLdRpMem]
    exact .plain (.read16 (completes_setRegs _ _)) (.head _)
  case incR | incHalf | decR | decHalf | daa | cpl | neg =>
    simp only [execIncR, execIncHalf, execDecR, execDecHalf, execDaa, execCpl, execNeg]
    exact .plain (completes_setRegs_flags _ _ _) (.head _)
  case rlca | rrca | rla | rra =>
    simp only [execRlca, execRrca, execRla, execRra, State.rotateA]
    exact .plain (completes_setRegs_flags _ _ _) (.head _)
  case rlcR | rrcR | rlR | rrR | slaR | sraR | sllR | srlR =>
    simp only [execRlcR, execRrcR, execRlR, execRrR, execSlaR, execSraR, execSllR, execSrlR, State.rotReg]
    exact .plain (completes_setRegs_flags _ _ _) (.head _)
  case addR | addHalf | addN | adcR | adcHalf | adcN | subR | subHalf | subN | sbcR | sbcHalf | sbcN | andR | andHalf | andN | xorR | xorHalf
      | xorN | orR | orHalf | orN | cpR | cpHalf | cpN =>
    simp only [execAddR, execAddHalf, execAddN, execAdcR, execAdcHalf, execAdcN, execSubR, execSubHalf, execSubN, execSbcR, execSbcHalf,
      execSbcN, execAndR, execAndHalf, execAndN, execXorR, execXorHalf, execXorN, execOrR, execOrHalf, execOrN, execCpR, execCpHalf, execCpN,
      State.alu]
    exact .plain (completes_setRegs_flags _ _ _) (.head _)
  case addMem | adcMem | subMem | sbcMem | andMem | xorMem | orMem | cpMem =>
    simp only [execAddMem, execAdcMem, execSubMem, execSbcMem, execAndMem, execXorMem, execOrMem, execCpMem, State.aluMem, State.alu]
    exact .plain (.readMem (completes_setRegs_flags _ _ _)) (.head _)
  case addIdx | adcIdx | subIdx | sbcIdx | andIdx | xorIdx | orIdx | cpIdx =>
    simp only [execAddIdx, execAdcIdx, execSubIdx, execSbcIdx, execAndIdx, execXorIdx, execOrIdx, execCpIdx, State.aluIdx, State.alu]
    exact .indexed (.indexed (.readMem (completes_setRegs_flags _ _ _))) (.head _)
  case scf | ccf | bitR =>
    simp only [execScf, execCcf, execBitR]
    exact .plain (completes_doneFlags _ _) (.head _)
  case incMem | decMem =>
    simp only [execIncMem, execDecMem]
    exact .plain (completes_modifyMem _ _ _) (.head _)
  case rlcMem | rrcMem | rlMem | rrMem | slaMem | sraMem | sllMem | srlMem =>
    simp only [execRlcMem, execRrcMem, execRlMem, execRrMem, execSlaMem, execSraMem, execSllMem, execSrlMem, State.rotMem]
    exact .plain (completes_modifyMem _ _ _) (.head _)
  case incIdx | decIdx =>
    simp only [execIncIdx, execDecIdx]
    exact .indexed (.indexed (completes_modifyMem _ _ _)) (.head _)
  case rlcIdx | rrcIdx | rlIdx | rrIdx | slaIdx | sraIdx | sllIdx | srlIdx =>
    simp only [execRlcIdx, execRrcIdx, execRlIdx, execRrIdx, execSlaIdx, execSraIdx, execSllIdx, execSrlIdx, State.rotIdx]
    exact .indexed (.indexed (completes_modifyMem _ _ _)) (.head _)
  case rlcIdxR | rrcIdxR | rlIdxR | rrIdxR | slaIdxR | sraIdxR | sllIdxR | srlIdxR =>
    simp only [execRlcIdxR, execRrcIdxR, execRlIdxR, execRrIdxR, execSlaIdxR, execSraIdxR, execSllIdxR, execSrlIdxR, State.rotIdxReg]
    exact .indexed (.indexed (.readMem (.fill (.writeMem (completes_setRegs_flags _ _ _))))) (.head _)
  case resIdxR | setIdxR =>
    simp only [execResIdxR, execSetIdxR, State.rewriteIdxReg]
    exact .indexed (.indexed (.readMem (.fill (.writeMem (completes_setRegs _ _))))) (.head _)
  case resMem | setMem =>
    simp only [execResMem, execSetMem]
    exact .plain (completes_rewriteMem _ _ _) (.head _)
  case resIdx | setIdx =>
    simp only [execResIdx, execSetIdx]
    exact .indexed (.indexed (completes_rewriteMem _ _ _)) (.head _)
  case bitMem =>
    simp only [execBitMem]
    exact .plain (.readMem (.fill (completes_doneFlags _ _))) (.head _)
  case bitIdx =>
    simp only [execBitIdx]
    exact .indexed (.indexed (.readMem (.fill (completes_doneFlags _ _)))) (.head _)
  case ldHlN | ldMemR =>
    simp only [execLdHlN, execLdMemR]
    exact .plain (.writeMem (completes_done _)) (.head _)
  case ldIdxN | ldIdxR =>
    simp only [execLdIdxN, execLdIdxR]
    exact .indexed (.indexed (.writeMem (completes_done _))) (.head _)
  case ldRIdx =>
    simp only [execLdRIdx]
    exact .indexed (.indexed (.readMem (completes_setRegs _ _))) (.head _)
  case popRr | popXy =>
    simp only [execPopRr, execPopXy]
    exact .plain (.pop (completes_setRegs _ _)) (.head _)
  case ret =>
    simp only [execRet]
    exact .plain (completes_popPc _) (.head _)
  case outNA | outCR | outC0 =>
    simp only [execOutNA, execOutCR, execOutC0]
    exact .plain (.writePort (completes_setRegs _ _)) (.head _)
  case inAN =>
    simp only [execInAN]
    exact .plain (.readPort (completes_setRegs _ _)) (.head _)
  case inRC | inC =>
    simp only [execInRC, execInC]
    exact .plain (.readPort (completes_setRegs_flags _ _ _)) (.head _)
  case exSpHl | exSpXy =>
    simp only [execExSpHl, execExSpXy, State.exchangeTop]
    exact .plain (.read16 (.fill (.writeMem (.writeMem (.fill (completes_setRegs _ _)))))) (.head _)
  case pushXy =>
    simp only [execPushXy]
    exact .plain (.fill (.push (completes_done _))) (.head _)
  case call | rst =>
    simp only [execCall, execRst]
    exact .plain (completes_callTo _ _) (.head _)
  case retn | reti =>
    simp only [execRetn, execReti]
    exact .plain (completes_returnFromInterrupt _) (.head _)
  case rrd | rld =>
    simp only [execRrd, execRld, State.rotateDigit]
    exact .plain (.readMem (.fill (.writeMem (completes_setRegs_flags _ _ _)))) (.head _)
  case pushRr p =>
    simp only [execPushRr]
    exact .plain (.fill (.push (completes_done _))) (.head _) (by cases p <;> simp [encode, RP2.code, fieldX, fieldY, fieldZ])
  case ei => exact .ei (completes_setRegs { s with skipInt := true } _) rfl (.head _)
  case jrCc cc e =>
    simp only [execJrCc]
    split
    · exact .plain (completes_jumpRel _ _) (.tail _ (.head _))
    · exact .plain (completes_done _) (.head _)
  case djnz e =>
    simp only [execDjnz]
    split
    · exact .plain (completes_setRegs _ _) (.head _)
    · exact .plain (.setRegs (completes_jumpRel _ _)) (.tail _ (.head _))
  case retCc cc =>
    simp only [execRetCc]
    split
    · exact .plain (.fill (completes_popPc _)) (.tail _ (.head _))
    · exact .plain (.fill (completes_done _)) (.head _)
  case jpCc cc nn =>
    simp only [execJpCc]
    split <;> exact .plain (completes_setRegs _ _) (.head _)
  case callCc cc nn =>
    simp only [execCallCc]
    split
    · exact .plain (completes_callTo _ _) (.tail _ (.head _))
    · exact .plain (completes_setRegs _ _) (.head _)
  case ldi | ldd =>
    simp only [execLdi, execLdd]
    exact .plain (completes_blockLoad _ _ _) (.head _)
  case cpi | cpd =>
    simp only [execCpi, execCpd]
    exact .plain (completes_blockCompare _ _ _) (.head _)
  case ini | ind =>
    simp only [execIni, execInd]
    exact .plain (completes_blockIn _ _ _) (.head _)
  case outi | outd =>
    simp only [execOuti, execOutd]
    exact .plain (completes_blockOut _ _ _) (.head _)
  case ldir | lddr =>
    simp only [execLdir, execLddr]
    exact .repeating (completes_blockLoad _ _ _) rfl
  case cpir | cpdr =>
    simp only [execCpir, execCpdr]
    exact .repeating (completes_blockCompare _ _ _) rfl
  case inir | indr =>
    simp only [execInir, execIndr]
    exact .repeating (completes_blockIn _ _ _) rfl
  case otir | otdr =>
    simp only [execOtir, execOtdr]
    exact .repeating (completes_blockOut _ _ _) rfl

/-- What an instruction can do, said once for the frame and the timing. -/
theorem exec_next_inv {i : Instr} {s t : State} (h : exec i s = .next t) :
    ∃ s1 ev r, t = (s1.onBus ev).setRegs r ∧
      (s1 = s ∨ s1 = s.eaReady ∨ (behindPrefixes i = .ei ∧ s1 = { s with skipInt := true })) ∧
      (i.wf = true → fetchTime (encode i) + busTime ev ∈ i.tTotals) := by
  obtain ⟨s1, ev, ⟨r, hr⟩, hs, time⟩ := exec_performs i s
  rw [h] at hr
  exact ⟨s1, ev, r, Host.Outcome.next.inj hr, hs, time⟩

/-- Settles O31: bus cycles and a register transform leave the control state as it was where they began. -/
theorem controlStateUntouched : Obligations.ControlStateUntouched := by
  intro i s t h
  obtain ⟨s1, ev, r, rfl, hs, -⟩ := exec_next_inv h
  rw [State.onBus_frame]
  obtain rfl | rfl | ⟨hei, rfl⟩ := hs
  · simp
  · simp [State.eaReady]
  · simp [hei]

/-! ### The cycles of a fetch on a state -/

theorem State.fetchCycle_tStates (s : State) (c : FetchCycle) : (s.fetchCycle c).tStates = c.tStates + s.tStates := by
  cases c <;> rfl

/-- Fetching leaves the mode, the clock phase and the flight. -/
theorem State.fetchAll_control (s : State) (cs : List FetchCycle) :
    (s.fetchAll cs).mode = s.mode ∧ (s.fetchAll cs).clk = s.clk ∧ (s.fetchAll cs).flight = s.flight := by
  induction cs generalizing s with
  | nil => exact ⟨rfl, rfl, rfl⟩
  | cons c cs ih => cases c <;> exact ih _

theorem State.fetchAll_tStates (s : State) (cs : List FetchCycle) :
    (s.fetchAll cs).tStates = (cs.map FetchCycle.tStates).sum + s.tStates := by
  induction cs generalizing s with
  | nil => simp [State.fetchAll]
  | cons c cs ih =>
    have rest := ih (s.fetchCycle c)
    rw [State.fetchCycle_tStates] at rest
    simp only [State.fetchAll, List.foldl_cons, List.map_cons, List.sum_cons] at rest ⊢
    omega

theorem State.fetchInstr_tStates (s : State) (i : Instr) (h : s.dec.modifier = none) :
    (s.fetchInstr i).tStates = fetchTime (encode i) + s.tStates := by
  rw [State.fetchInstr, State.fetchAll_tStates, State.fetchPlan, h, fetchTime]

/-- Settles O35: the T-states of the fetch, then those of the meaning's bus cycles. -/
theorem timingMatchesTable : Obligations.TimingMatchesTable := by
  intro i s t hwf hev hmod h
  obtain ⟨s1, ev, r, rfl, hs, time⟩ := exec_next_inv h
  have start : s1.tStates = fetchTime (encode i) := by
    have fetched := s.fetchInstr_tStates i hmod
    rw [s.tStates_eq, hev, busTime_nil, Nat.add_zero] at fetched
    obtain rfl | rfl | ⟨-, rfl⟩ := hs <;> exact fetched
  have total : ((s1.onBus ev).setRegs r).tStates = fetchTime (encode i) + busTime ev := by
    rw [← start, Nat.add_comm, ← State.onBus_tStates]
    rfl
  exact total ▸ time hwf

end Sys2Proof.Machine
end

section
/-! PROOFS. A step and the last clock call of an instruction run the decoded instruction (R6, R150, R155). -/

namespace Sys2Proof.Machine

/-! ### The pin level's falling edge, and retirement -/

/-- The pin actions of a half-edge reach the pins and the registers alone. -/
theorem State.act_frame (s : State) (c : Cycle) (h : Nat) :
    (s.act c h).1 = { s with regs := (s.act c h).1.regs, pins := (s.act c h).1.pins } := by
  unfold State.act
  cases c.kind with
  | fetch => simp only [State.actFetch]; split <;> rfl
  | memRead => simp only [State.actMemRead]; split <;> rfl
  | memWrite => simp only [State.actMemWrite]; split <;> rfl
  | ioRead => simp only [State.actIoRead]; split <;> rfl
  | ioWrite => simp only [State.actIoWrite]; split <;> rfl
  | intAck => simp only [State.actIntAck]; split <;> rfl
  | filler => rfl

/-- So does a falling edge that ends a cycle: it runs that cycle's last actions, or none at the end of a bus release (R104, R113). -/
theorem State.fall_finished_frame {s u : State} {c e : Cycle} (h : s.fall c = .finished u e) :
    u = { s with regs := u.regs, pins := u.pins } := by
  unfold State.fall at h
  dsimp only at h
  repeat' split at h
  all_goals cases h
  · exact s.act_frame c _
  · rfl

/-- Retirement settles the registers, the boundary state and the pins; both skip flags are consumed (R155, R374). -/
theorem State.retire_frame (s : State) :
    s.retire = { s with
      regs := s.retire.regs, nmiPending := s.retire.nmiPending, skipInt := false, skipNmi := false, dec := s.retire.dec,
      cycle := s.retire.cycle, pins := s.retire.pins } := by
  unfold State.retire State.arbitrate
  repeat' split
  all_goals rfl

/-- The transaction of an instruction: its fetch, its meaning and retirement (R150, R155). -/
theorem State.transact_of_decodeNext {s : State} {i : Instr} {rest : List Byte} (hentry : s.dec.entry = .none)
    (hhalted : s.regs.halted = false) (hdec : s.decodeNext = .ok i rest) : s.transact = s.runInstr i := by
  simp [State.transact, State.instruction, hentry, hhalted, hdec]

/-- A step of a running core outside of Reset and of any flight is one transaction. -/
theorem step_of_running {s : State} (hmode : s.mode = .running) (hreset : s.pins.level.reset = true) (hflight : s.flight = none) :
    step s = ({ s with events := [] } : State).sampleInt.openPins.transact := by
  simp [step, State.stepOnce, State.runStep, State.rewind, hmode, hreset, hflight]

/-- A call of `clock` on a falling edge that ends a cycle runs the decoder step (R91). -/
theorem State.clock_of_finished {s m u : State} {inp : PinVec} {c e : Cycle} (hm : m = { s with clk := false, pins := s.pins.merge inp })
    (hclk : s.clk = true) (hmode : s.mode = .running) (hreset : m.pins.level.reset = true) (hcycle : s.cycle = some c)
    (hfall : m.fall c = .finished u e) : s.clock inp = u.decoderStep e := by
  have edge : ({ s with clk := !s.clk } : State).mapPins (·.merge inp) = m := by rw [hm, hclk]; rfl
  have running : m.mode = .running := by rw [hm]; exact hmode
  have active : m.cycle = some c := by rw [hm]; exact hcycle
  have falling : m.clk = false := by rw [hm]
  rw [State.clock, edge]
  simp [hreset, running, State.advance, active, falling, hfall]

/-- Where the transaction in flight has no cycle left, its result stands; the pins and what the host has scripted are those of now (log entry 8). -/
theorem State.decoderStep_of_done {u t : State} {e : Cycle} {fl : Flight} (hfl : u.flight = some fl)
    (ht : (u.restart (fl.push e) []).transact = .next t) (hlen : t.events.length = (fl.push e).cycles) :
    u.decoderStep e = .next { t with pins := u.pins, dataIn := u.dataIn } := by
  simp [State.decoderStep, hfl, ht, hlen]

/-- Settles O23: at both levels the transaction of a decoded instruction is `runInstr`; at the pin level `decoderStep` then finds no cycle left. -/
theorem stepRunsDecodedInstruction : Obligations.StepRunsDecodedInstruction := by
  constructor
  · intro s i rest hmode hreset hflight hentry hhalted hdec
    rw [step_of_running hmode hreset hflight]
    exact State.transact_of_decodeNext hentry hhalted hdec
  · intro s m u b v inp c e fl i rest hm hclk hmode hreset hcycle hfall hfl hb hentry hhalted hdec hexec hlen
    have ht : b.transact = .next v.retire := by
      rw [State.transact_of_decodeNext hentry hhalted hdec, State.runInstr, hexec, andThen_next]
    have retired := v.retire_frame
    have hstep := State.decoderStep_of_done hfl (hb ▸ ht) (by rw [retired]; exact hlen)
    obtain ⟨hvmode, hvclk, -, -, hvflight, -⟩ := controlStateUntouched i _ v hexec
    obtain ⟨hfmode, hfclk, hfflight⟩ := b.fetchAll_control (b.fetchPlan i)
    have hu := State.fall_finished_frame hfall
    have mode : v.mode = .running := by
      rw [hvmode, State.fetchInstr, hfmode, hb, hu, hm]
      exact hmode
    have clk : v.clk = false := by
      rw [hvclk, State.fetchInstr, hfclk, hb, hu, hm]
      rfl
    have flight : v.flight = none := by
      rw [hvflight, State.fetchInstr, hfflight, hb]
      rfl
    refine ⟨_, (State.clock_of_finished hm hclk hmode hreset hcycle hfall).trans hstep, rfl, ?_⟩
    rw [retired]
    exact ⟨rfl, rfl, rfl, flight, rfl, rfl, rfl, rfl, rfl, mode, clk, rfl⟩

end Sys2Proof.Machine
end

section
/-! PROOFS. Every meaning keeps the canonical form of memory (R80). -/

namespace Sys2Proof.Machine

theorem State.busCycle_wf {s : State} (h : s.mem.wf = true) (e : BusEvent) : (s.busCycle e).mem.wf = true := by
  cases e with
  | memWrite a v => exact Memory.write_wf _ a v h
  | _ => exact h

theorem State.onBus_wf {s : State} (h : s.mem.wf = true) (ev : List BusEvent) : (s.onBus ev).mem.wf = true := by
  induction ev generalizing s with
  | nil => exact h
  | cons e ev ih => exact ih (State.busCycle_wf h e)

theorem exec_wf {i : Instr} {s t : State} (h : exec i s = .next t) (hm : s.mem.wf = true) : t.mem.wf = true := by
  obtain ⟨s1, ev, r, rfl, hs, -⟩ := exec_next_inv h
  have start : s1.mem.wf = true := by obtain rfl | rfl | ⟨-, rfl⟩ := hs <;> exact hm
  exact State.onBus_wf start ev

end Sys2Proof.Machine
end

section
/-! PROOFS. The invariant at the transaction level (R40, R43, R44, R374). -/

namespace Sys2Proof.Machine

/-! ### The directions that no pin action changes -/

/-- The five inputs are not driven, and M1, RFSH, HALT and BUSACK are (R44). -/
structure PinVec.FixedDirs (d : PinVec) : Prop where
  inputs : d.int = false ∧ d.nmi = false ∧ d.wait = false ∧ d.busreq = false ∧ d.reset = false
  driven : d.m1 = true ∧ d.rfsh = true ∧ d.halt = true ∧ d.busack = true

theorem Inv.fixedDirs {s : State} (h : Inv s) : s.pins.dir.FixedDirs := ⟨h.inputs, h.driven⟩

section
variable {p : PinBus} (h : p.dir.FixedDirs)
include h

theorem PinVec.FixedDirs.merge (inp : PinVec) : (p.merge inp).dir.FixedDirs := h
theorem PinVec.FixedDirs.controlIdle (halted : Bool) : (p.controlIdle halted).dir.FixedDirs := ⟨h.inputs, rfl, rfl, rfl, rfl⟩
theorem PinVec.FixedDirs.driveAddr (a : Word) : (p.driveAddr a).dir.FixedDirs := ⟨h.inputs, h.driven⟩
theorem PinVec.FixedDirs.floatData : p.floatData.dir.FixedDirs := ⟨h.inputs, h.driven⟩
theorem PinVec.FixedDirs.release : p.release.dir.FixedDirs := ⟨h.inputs, h.driven⟩
theorem PinVec.FixedDirs.retake (a : Word) : (p.retake a).dir.FixedDirs := ⟨h.inputs, h.driven⟩

end

theorem PinVec.fixedDirs_powerOnDir : PinVec.powerOnDir.FixedDirs := ⟨by decide, by decide⟩

/-! ### The middle of a transaction -/

/-- What the invariant says of a transaction between its boundaries, whatever its registers and its decoder state are. -/
structure MidTransaction (s : State) : Prop where
  memory : s.mem.wf = true
  dirs : s.pins.dir.FixedDirs
  mode : s.mode = .running
  flight : s.flight = none

theorem Inv.midTransaction {s : State} (h : Inv s) (hmode : s.mode = .running) (hflight : s.flight = none) : MidTransaction s :=
  ⟨h.memory, h.fixedDirs, hmode, hflight⟩

section
variable {s : State} (h : MidTransaction s)
include h

theorem MidTransaction.setRegs (r : Regs) : MidTransaction (s.setRegs r) := ⟨h.memory, h.dirs, h.mode, h.flight⟩
theorem MidTransaction.ocf : MidTransaction s.ocf := ⟨h.memory, h.dirs, h.mode, h.flight⟩
theorem MidTransaction.afterRead (a : Word) : MidTransaction (s.afterRead a) := ⟨h.memory, h.dirs, h.mode, h.flight⟩
theorem MidTransaction.pushReturn : MidTransaction s.pushReturn := ⟨State.push_wf _ _ h.memory, h.dirs, h.mode, h.flight⟩
theorem MidTransaction.enterHandler (w : Word) : MidTransaction (s.enterHandler w) := h.setRegs _

theorem MidTransaction.fetchCycle (c : FetchCycle) : MidTransaction (s.fetchCycle c) := by
  cases c <;> exact ⟨h.memory, h.dirs, h.mode, h.flight⟩

theorem MidTransaction.exec {i : Instr} {t : State} (ht : exec i s = .next t) : MidTransaction t := by
  obtain ⟨hmode, -, -, hpins, hflight, -⟩ := controlStateUntouched i s t ht
  exact ⟨exec_wf ht h.memory, hpins ▸ h.dirs, hmode.trans h.mode, hflight.trans h.flight⟩

theorem MidTransaction.nmiEntry : MidTransaction s.nmiEntry := (h.ocf.setRegs _).pushReturn.enterHandler _

/-- Retirement clears the skip flags and arms a cycle; an acceptance clears `halted` and, for INT, both flip-flops (R374, R378). -/
theorem MidTransaction.retire : Inv s.retire := by
  have dirs := h.dirs
  unfold State.retire State.arbitrate
  split
  · exact ⟨h.memory, dirs.inputs, dirs.driven, .inl ⟨h.mode, rfl⟩, ⟨rfl, rfl⟩, ⟨fun _ => rfl, nofun⟩, h.flight ▸ rfl⟩
  · split
    · exact ⟨h.memory, dirs.inputs, dirs.driven, .inl ⟨h.mode, rfl⟩, ⟨rfl, rfl⟩, ⟨fun _ => rfl, fun _ => ⟨rfl, rfl⟩⟩, h.flight ▸ rfl⟩
    · exact ⟨h.memory, dirs.inputs, dirs.driven, .inl ⟨h.mode, rfl⟩, ⟨rfl, rfl⟩, ⟨fun hne => absurd rfl hne, nofun⟩, h.flight ▸ rfl⟩

theorem MidTransaction.intEntry {t : State} (ht : s.intEntry = .next t) : MidTransaction t := by
  unfold State.intEntry State.inta at ht
  dsimp only at ht
  have acked (v : Byte) : MidTransaction (((s.busTaken .inta s.regs.pc).record (.intAck s.regs.pc v s.regs.ir)).setRegs
      { s.regs with r := refreshInc s.regs.r }) := ⟨h.memory, h.dirs, h.mode, h.flight⟩
  split at ht
  · split at ht
    · cases ht
      exact (acked _).pushReturn.enterHandler _
    · cases ht
  · cases ht
    exact (acked _).pushReturn.enterHandler _
  · cases ht
    exact (((acked _).pushReturn.afterRead _).afterRead _).enterHandler _

end

theorem MidTransaction.fetchAll {s : State} (h : MidTransaction s) (cs : List FetchCycle) : MidTransaction (s.fetchAll cs) := by
  induction cs generalizing s with
  | nil => exact h
  | cons c cs ih => exact ih (h.fetchCycle c)

/-! ### The parts of a step -/

/-- One more prefix byte: no boundary, so what the last one settled stands (log entry 9). -/
theorem Inv.fetchPrefix {s : State} (h : Inv s) (hmode : s.mode = .running) (hentry : s.dec.entry = .none) : Inv s.fetchPrefix := by
  have entry : s.fetchPrefix.dec.entry = .none := (Decoder.onOpcode_entry _ _).trans hentry
  exact ⟨h.memory, h.inputs, h.driven, .inl ⟨hmode, rfl⟩, h.skips, by simp [entry], h.flight⟩

/-- Every transaction ends at a boundary, where retirement settles the invariant, or is one more prefix byte. -/
theorem Inv.transact {s t : State} (h : Inv s) (hmode : s.mode = .running) (hflight : s.flight = none) (ht : s.transact = .next t) : Inv t := by
  have mid := h.midTransaction hmode hflight
  unfold State.transact at ht
  split at ht
  · cases ht
    exact mid.nmiEntry.retire
  · obtain ⟨u, hu, hr⟩ := (andThen_next_iff _ _ _).1 ht
    cases hr
    exact (mid.intEntry hu).retire
  · split at ht
    · cases ht
      exact ((mid.fetchCycle .opcode).setRegs _).retire
    · unfold State.instruction at ht
      split at ht
      · obtain ⟨u, hu, hr⟩ := (andThen_next_iff _ _ _).1 ht
        cases hr
        exact ((mid.fetchAll _).exec hu).retire
      · cases ht
        exact h.fetchPrefix hmode ‹_›

theorem Entry.holds_iff (e : Entry) (r : Regs) :
    e.holds r = true ↔ (e ≠ .none → r.halted = false) ∧ (e = .int → r.iff1 = false ∧ r.iff2 = false) := by
  cases e <;> simp [Entry.holds, and_assoc]

/-- A transaction begun again finds the registers that its entry, if any, was accepted with. -/
theorem Inv.restart {s : State} (h : Inv s) {fl : Flight} (hmode : s.mode = .running) (hfl : s.flight = some fl) (more : List Byte) :
    Inv (s.restart fl more) := by
  have held : fl.dec.entry.holds fl.regs = true := by simpa [hfl] using h.flight
  obtain ⟨-, active⟩ | ⟨reset, -⟩ := h.cycle
  · exact ⟨h.memory, h.inputs, h.driven, .inl ⟨hmode, active⟩, h.skips, (Entry.holds_iff _ _).1 held, rfl⟩
  · rw [hmode] at reset
    cases reset

theorem Inv.rewind {s : State} (h : Inv s) (hmode : s.mode = .running) : Inv s.rewind := by
  unfold State.rewind
  split
  · exact ⟨h.memory, h.inputs, h.driven, h.cycle, h.skips, h.accepted, h.flight⟩
  · exact h.restart hmode ‹_› _

theorem State.rewind_flight (s : State) : s.rewind.flight = none := by
  unfold State.rewind
  split
  · assumption
  · rfl

theorem State.rewind_mode (s : State) : s.rewind.mode = s.mode := by
  unfold State.rewind
  split <;> rfl

theorem Inv.sampleInt {s : State} (h : Inv s) : Inv s.sampleInt := ⟨h.memory, h.inputs, h.driven, h.cycle, h.skips, h.accepted, h.flight⟩

theorem Inv.mapPins {s : State} (h : Inv s) {g : PinBus → PinBus} (dirs : (g s.pins).dir.FixedDirs) : Inv (s.mapPins g) :=
  ⟨h.memory, dirs.inputs, dirs.driven, h.cycle, h.skips, h.accepted, h.flight⟩

theorem Inv.openPins {s : State} (h : Inv s) : Inv s.openPins := h.mapPins ((h.fixedDirs.controlIdle _).driveAddr _).floatData

theorem Inv.runStep {s t : State} (h : Inv s) (hmode : s.mode = .running) (ht : s.runStep = .next t) : Inv t :=
  (h.rewind hmode).sampleInt.openPins.transact (s.rewind_mode.trans hmode) s.rewind_flight ht

theorem Inv.leaveReset {s : State} (h : Inv s) : Inv s.leaveReset :=
  ⟨h.memory, h.inputs, h.driven, .inl ⟨rfl, rfl⟩, ⟨rfl, rfl⟩, ⟨fun hne => absurd rfl hne, nofun⟩, rfl⟩

/-- Entering Reset stores what has reached the host, and takes the power-on pattern (R116, R387). -/
theorem State.enterReset_frame (s : State) :
    s.enterReset = { s with
      mem := s.enterReset.mem, portOut := s.enterReset.portOut, freeCtr := s.enterReset.freeCtr, pins := s.pins.powerOn, mode := .reset,
      dec := .reset, cycle := none, flight := none } := by
  have stored := s.abandonFlight_onlyStored.1
  unfold State.enterReset
  rw [stored]
  rfl

theorem Inv.enterReset {s : State} (h : Inv s) : Inv s.enterReset := by
  have memory : s.enterReset.mem.wf = true := s.abandonFlight_onlyStored.2 h.memory
  have dirs := PinVec.fixedDirs_powerOnDir
  rw [State.enterReset_frame]
  exact ⟨memory, dirs.inputs, dirs.driven, .inr ⟨rfl, rfl, rfl⟩, h.skips, ⟨fun hne => absurd rfl hne, nofun⟩, rfl⟩

/-- Settles O44: RESET low enters Reset; else the step is one transaction, from where the core was or from where it leaves Reset. -/
theorem stepKeepsInvariant : Obligations.StepKeepsInvariant := by
  intro s t h ht
  unfold step State.stepOnce at ht
  split at ht
  · cases ht
    have entered := h.enterReset
    exact ⟨entered.memory, entered.inputs, entered.driven, entered.cycle, entered.skips, entered.accepted, entered.flight⟩
  · split at ht
    · exact h.runStep ‹_› ht
    · exact h.leaveReset.runStep rfl ht
    · exact h.leaveReset.runStep rfl ht

end Sys2Proof.Machine
end

section
/-! PROOFS. The invariant at the pin level (R43, R44, R91). -/

namespace Sys2Proof.Machine

/-! ### The pin actions of a half-edge -/

theorem PinVec.FixedDirs.t1 {s : State} (h : s.pins.dir.FixedDirs) (a : Word) : (s.t1 a).pins.dir.FixedDirs := (h.controlIdle _).driveAddr a

/-- T1 drives the control outputs; the other half-edges change the levels, and the directions of the address and data lines. -/
theorem State.act_fixedDirs {s : State} (h : s.pins.dir.FixedDirs) (c : Cycle) (n : Nat) : (s.act c n).1.pins.dir.FixedDirs := by
  unfold State.act
  split
  · unfold State.actFetch
    split
    · exact (h.t1 _).floatData
    all_goals exact ⟨h.inputs, h.driven⟩
  · unfold State.actMemRead
    split
    · exact (h.t1 _).floatData
    all_goals exact ⟨h.inputs, h.driven⟩
  · unfold State.actMemWrite
    split
    · exact h.t1 _
    all_goals exact ⟨h.inputs, h.driven⟩
  · unfold State.actIoRead
    split
    · exact (h.t1 _).floatData
    all_goals exact ⟨h.inputs, h.driven⟩
  · unfold State.actIoWrite
    split
    · exact h.t1 _
    all_goals exact ⟨h.inputs, h.driven⟩
  · unfold State.actIntAck
    split
    · exact (h.t1 _).floatData
    all_goals exact ⟨h.inputs, h.driven⟩
  · exact h

/-- Of the registers the pin actions change PC, R and `instr` alone (R96, R102). -/
theorem State.act_regs (s : State) (c : Cycle) (n : Nat) :
    (s.act c n).1.regs = { s.regs with
      pc := (s.act c n).1.regs.pc, r := (s.act c n).1.regs.r, instr := (s.act c n).1.regs.instr } := by
  unfold State.act
  cases c.kind with
  | fetch => simp only [State.actFetch]; split <;> rfl
  | memRead => simp only [State.actMemRead]; split <;> rfl
  | memWrite => simp only [State.actMemWrite]; split <;> rfl
  | ioRead => simp only [State.actIoRead]; split <;> rfl
  | ioWrite => simp only [State.actIoWrite]; split <;> rfl
  | intAck => simp only [State.actIntAck]; split <;> rfl
  | filler => rfl

/-! ### The half-edges of a running core -/

/-- What a half-edge makes of the active cycle meets the invariant, and a core whose cycle has finished still runs. -/
def Advance.KeepsInv : Advance → Prop
  | .going t => Inv t
  | .finished t _ => Inv t ∧ t.mode = .running
  | .violation => True

section
variable {s : State} (h : Inv s) (hmode : s.mode = .running)
include h hmode

theorem Inv.withCycle (c : Cycle) : Inv { s with cycle := some c } :=
  ⟨h.memory, h.inputs, h.driven, .inl ⟨hmode, rfl⟩, h.skips, h.accepted, h.flight⟩

theorem Inv.active : s.cycle.isSome = true := by
  obtain ⟨-, active⟩ | ⟨reset, -⟩ := h.cycle
  · exact active
  · rw [hmode] at reset
    cases reset

theorem Inv.act (c : Cycle) (n : Nat) : Inv (s.act c n).1 ∧ (s.act c n).1.mode = .running := by
  have dirs := State.act_fixedDirs h.fixedDirs c n
  rw [State.act_frame, State.act_regs]
  exact ⟨⟨h.memory, dirs.inputs, dirs.driven, .inl ⟨hmode, h.active hmode⟩, h.skips, h.accepted, h.flight⟩, hmode⟩

theorem Inv.rise (c : Cycle) : (s.rise c).KeepsInv := by
  unfold State.rise
  split
  · dsimp only
    split
    · trivial
    · obtain ⟨inv, mode⟩ := h.act hmode { c with t := c.t + 1 } (2 * (c.t + 1).toNat)
      exact inv.withCycle mode _
  · exact (h.mapPins h.fixedDirs.release).withCycle hmode _
  · split
    · exact (h.mapPins (h.fixedDirs.retake _)).withCycle hmode _
    · exact h
  · trivial

theorem Inv.fall (c : Cycle) : (s.fall c).KeepsInv := by
  unfold State.fall
  split
  · split
    · exact h
    · dsimp only
      split
      · trivial
      · obtain ⟨inv, mode⟩ := h.act hmode c (2 * c.t.toNat + 1)
        split
        · exact inv.withCycle mode _
        · split
          · split
            · exact inv.withCycle mode _
            · exact ⟨inv, mode⟩
          · exact inv.withCycle mode _
  · exact h
  · exact h
  · exact ⟨h, hmode⟩

/-- The next cycle of the transaction in flight, or its end, where the result of the transaction stands with the pins of now. -/
theorem Inv.decoderStep {c : Cycle} {t : State} (ht : s.decoderStep c = .next t) : Inv t := by
  unfold State.decoderStep at ht
  split at ht
  · cases ht
  · rename_i old hold
    have held : old.dec.entry.holds old.regs = true := by simpa [hold] using h.flight
    have pushed : Inv { s with flight := some (old.push c) } :=
      ⟨h.memory, h.inputs, h.driven, .inl ⟨hmode, h.active hmode⟩, h.skips, h.accepted, by simpa [Flight.push] using held⟩
    obtain ⟨u, hu, hnext⟩ := (andThen_next_iff _ _ _).1 ht
    split at hnext
    · cases hnext
      refine ⟨h.memory, h.inputs, h.driven, .inl ⟨hmode, rfl⟩, h.skips, ?_, pushed.flight⟩
      simpa only [Decoder.afterCycle_entry] using h.accepted
    · split at hnext
      · cases hnext
        have done := (pushed.restart hmode rfl []).transact hmode rfl hu
        exact ⟨done.memory, h.inputs, h.driven, done.cycle, done.skips, done.accepted, done.flight⟩
      · cases hnext

theorem Inv.openFlight : Inv s.openFlight ∧ s.openFlight.mode = .running := by
  unfold State.openFlight
  split
  · exact ⟨h, hmode⟩
  · exact ⟨⟨h.memory, h.inputs, h.driven, .inl ⟨hmode, h.active hmode⟩, h.skips, h.accepted,
      (Entry.holds_iff _ _).2 h.accepted⟩, hmode⟩

theorem Inv.advance {t : State} (ht : s.advance = .next t) : Inv t := by
  unfold State.advance at ht
  split at ht
  · cases ht
  · rename_i c _
    have kept : (if s.clk then ({ s.openFlight with intLatch := s.pins.level.int } : State).rise c else s.fall c).KeepsInv := by
      split
      · obtain ⟨opened, mode⟩ := h.openFlight hmode
        have sampled : Inv { s.openFlight with intLatch := s.pins.level.int } :=
          ⟨opened.memory, opened.inputs, opened.driven, opened.cycle, opened.skips, opened.accepted, opened.flight⟩
        exact sampled.rise mode c
      · exact h.fall hmode c
    dsimp only at ht
    split at ht <;> rename_i outcome
    · cases ht
      rwa [outcome] at kept
    · rw [outcome] at kept
      exact kept.1.decoderStep kept.2 ht
    · cases ht

end

theorem Inv.edge {s : State} (h : Inv s) (inp : PinVec) : Inv (({ s with clk := !s.clk } : State).mapPins (·.merge inp)) :=
  ⟨h.memory, h.inputs, h.driven, h.cycle, h.skips, h.accepted, h.flight⟩

/-- Settles O45: each call enters Reset, stays in it, or advances the active cycle of a running core by one half-edge. -/
theorem clockKeepsInvariant : Obligations.ClockKeepsInvariant := by
  intro s t inp h ht
  have edge := h.edge inp
  unfold State.clock at ht
  dsimp only at ht
  split at ht
  · cases ht
    exact edge.enterReset
  · split at ht
    · exact edge.advance ‹_› ht
    · split at ht
      · exact edge.leaveReset.advance rfl ht
      · cases ht
        exact edge
    · split at ht
      · exact edge.leaveReset.advance rfl ht
      · cases ht
        exact edge

end Sys2Proof.Machine
end

section
/-! PROOFS. Reset: the machine that it leaves, and how the core leaves it (R43, R47, R117). -/

namespace Sys2Proof.Machine

theorem inv_reset : Inv State.reset where
  memory := Memory.reset_wf
  inputs := PinVec.fixedDirs_powerOnDir.inputs
  driven := PinVec.fixedDirs_powerOnDir.driven
  cycle := .inl ⟨rfl, rfl⟩
  skips := ⟨rfl, rfl⟩
  accepted := ⟨fun hne => absurd rfl hne, nofun⟩
  flight := rfl

/-- Settles O43: after reset a Fetch is armed; at power-on the core is in Reset, with no cycle. -/
theorem resetMeetsInvariant : Obligations.ResetMeetsInvariant :=
  ⟨inv_reset, { inv_reset with cycle := .inr ⟨rfl, rfl, rfl⟩ }⟩

/-! ### Leaving Reset -/

/-- The pin merge takes the host's level of an input (R91). -/
theorem PinBus.merge_level_reset {p : PinBus} (h : p.dir.reset = false) (inp : PinVec) : (p.merge inp).level.reset = inp.reset := by
  simp [PinBus.merge, h]

theorem PinBus.merge_level_int {p : PinBus} (h : p.dir.int = false) (inp : PinVec) : (p.merge inp).level.int = inp.int := by
  simp [PinBus.merge, h]

/-- T1 of an armed Fetch: PC on the address lines and M1 low (R96). -/
theorem State.rise_armed_fetch (s : State) (a : Word) :
    s.rise (.armed .fetch a 0 0) = .going { s with
      cycle := some { Cycle.armed .fetch s.regs.pc 0 0 with t := 0 }
      pins := ((s.pins.controlIdle s.regs.halted).driveAddr s.regs.pc).floatData.mapLevel fun l => { l with m1 := false } } := by
  simp [State.rise, Cycle.armed, Cycle.nominal, State.act, State.actFetch, CycleKind.drivesBus, State.mapPins, State.t1]

/-- On a rising edge the Fetch that leaving Reset arms has its T1 (R117). -/
theorem State.leaveReset_advance {s : State} (hclk : s.clk = true) :
    s.leaveReset.advance = .next { s.leaveReset with
      intLatch := s.pins.level.int
      cycle := some { Cycle.armed .fetch 0 0 0 with t := 0 }
      flight := some ⟨.reset, .reset, [], 0⟩
      pins := ((s.pins.controlIdle false).driveAddr 0).floatData.mapLevel fun l => { l with m1 := false } } := by
  have rising : s.leaveReset.clk = true := hclk
  have armed : s.leaveReset.cycle = some (.armed .fetch 0 0 0) := rfl
  rw [State.advance, armed]
  dsimp only
  rw [if_pos rising, State.rise_armed_fetch]
  rfl

/-- Settles O47: on the rising edge that leaves Reset the armed Fetch has its T1; RESET low at a step is `enterReset`. -/
theorem leaveReset : Obligations.LeaveReset := by
  refine ⟨fun s inp h hmode hreset => ?_, fun s hreset => ?_⟩
  · have high : (s.pins.merge inp).level.reset = true := (PinBus.merge_level_reset h.inputs.2.2.2.2 inp).trans hreset
    constructor
    · intro hclk
      refine ⟨{ s with clk := false, pins := s.pins.merge inp }, ?_, hmode, ?_, rfl⟩
      · simp [State.clock, State.mapPins, high, hmode, hclk]
      · obtain ⟨running, -⟩ | ⟨-, idle, -⟩ := h.cycle
        · rw [hmode] at running
          cases running
        · exact idle
    · intro hclk
      have call : s.clock inp = (({ s with clk := true, pins := s.pins.merge inp } : State).leaveReset).advance := by
        simp [State.clock, State.mapPins, high, hmode, hclk]
      have latch : (s.pins.merge inp).level.int = inp.int := PinBus.merge_level_int h.inputs.1 inp
      refine ⟨_, call.trans (State.leaveReset_advance rfl), rfl, rfl, rfl, rfl, latch, rfl, rfl, rfl, rfl, rfl, ⟨_, rfl, rfl, rfl⟩,
        rfl, rfl, rfl, rfl⟩
  · refine ⟨{ s.enterReset with events := [] }, by simp [step, State.stepOnce, hreset], ?_⟩
    rw [State.enterReset_frame]
    exact ⟨rfl, rfl, rfl, rfl⟩

end Sys2Proof.Machine
end

section
/-! PROOFS. What a meaning does to the registers, said once: the registers it may write (R46), the flags (R24) and Q (R35). -/

namespace Sys2Proof.Machine

/-! ### Registers written by name -/

/-- `x` for a register among `ns`, `y` for another. -/
def pick {α : Type} (ns : List RegName) (n : RegName) (x y : α) : α := if n ∈ ns then x else y

/-- `g` with the registers `ns` of `r`. -/
def Regs.mix (g r : Regs) (ns : List RegName) : Regs where
  a := pick ns .a r.a g.a
  f := pick ns .f r.f g.f
  b := pick ns .b r.b g.b
  c := pick ns .c r.c g.c
  d := pick ns .d r.d g.d
  e := pick ns .e r.e g.e
  h := pick ns .h r.h g.h
  l := pick ns .l r.l g.l
  aAlt := pick ns .aAlt r.aAlt g.aAlt
  fAlt := pick ns .fAlt r.fAlt g.fAlt
  bAlt := pick ns .bAlt r.bAlt g.bAlt
  cAlt := pick ns .cAlt r.cAlt g.cAlt
  dAlt := pick ns .dAlt r.dAlt g.dAlt
  eAlt := pick ns .eAlt r.eAlt g.eAlt
  hAlt := pick ns .hAlt r.hAlt g.hAlt
  lAlt := pick ns .lAlt r.lAlt g.lAlt
  ix := pick ns .ix r.ix g.ix
  iy := pick ns .iy r.iy g.iy
  sp := pick ns .sp r.sp g.sp
  pc := pick ns .pc r.pc g.pc
  i := pick ns .i r.i g.i
  r := pick ns .r r.r g.r
  wz := pick ns .wz r.wz g.wz
  instr := pick ns .instr r.instr g.instr
  iff1 := pick ns .iff1 r.iff1 g.iff1
  iff2 := pick ns .iff2 r.iff2 g.iff2
  im := pick ns .im r.im g.im
  q := pick ns .q r.q g.q
  halted := pick ns .halted r.halted g.halted

theorem Regs.mix_agree (g r x : Regs) (ns : List RegName) (n : RegName) :
    (g.mix r ns).agree x n = if n ∈ ns then r.agree x n else g.agree x n := by
  cases n <;> simp only [Regs.agree, Regs.mix, pick] <;> split <;> rfl

theorem Regs.agree_refl (g : Regs) (n : RegName) : g.agree g n = true := by cases n <;> simp [Regs.agree]

/-! ### The flags that each flag computation keeps -/

/-- Off the mask `m` two flag bytes agree. -/
def FlagsKept (m x y : Byte) : Prop := (x ^^^ y) &&& ~~~m = 0

theorem flagsKept_iff (m x y : Byte) : FlagsKept m x y ↔ ∀ k < 8, m.getLsbD k = true ∨ x.getLsbD k = y.getLsbD k := by
  unfold FlagsKept
  constructor
  · intro h k hk
    have bit := congrArg (fun v => v.getLsbD k) h
    simpa [hk, or_iff_not_imp_right] using bit
  · intro h
    apply BitVec.eq_of_getLsbD_eq
    intro k hk
    simpa [hk, or_iff_not_imp_right] using h k hk

/-- Two flag bytes agree off a mask where their eight flags do. -/
theorem Flags.kept_iff (m : Byte) (f : Flags) (b : Byte) :
    FlagsKept m f.toByte b ↔ (m.getLsbD 7 = true ∨ f.s = flagS b) ∧ (m.getLsbD 6 = true ∨ f.z = flagZ b) ∧
      (m.getLsbD 5 = true ∨ f.y = flag5 b) ∧ (m.getLsbD 4 = true ∨ f.h = flagH b) ∧ (m.getLsbD 3 = true ∨ f.x = flag3 b) ∧
      (m.getLsbD 2 = true ∨ f.pv = flagPV b) ∧ (m.getLsbD 1 = true ∨ f.n = flagN b) ∧ (m.getLsbD 0 = true ∨ f.c = flagC b) := by
  rw [flagsKept_iff, ← flagS_toByte f, ← flagZ_toByte f, ← flag5_toByte f, ← flagH_toByte f, ← flag3_toByte f, ← flagPV_toByte f,
    ← flagN_toByte f, ← flagC_toByte f]
  constructor
  · intro h
    exact ⟨h 7 (by decide), h 6 (by decide), h 5 (by decide), h 4 (by decide), h 3 (by decide), h 2 (by decide), h 1 (by decide),
      h 0 (by decide)⟩
  · rintro ⟨h7, h6, h5, h4, h3, h2, h1, h0⟩ k hk
    match k, hk with
    | 0, _ => exact h0
    | 1, _ => exact h1
    | 2, _ => exact h2
    | 3, _ => exact h3
    | 4, _ => exact h4
    | 5, _ => exact h5
    | 6, _ => exact h6
    | 7, _ => exact h7

theorem flagsKept_refl (m x : Byte) : FlagsKept m x x := by simp [FlagsKept]

theorem flagsKept_all (x y : Byte) : FlagsKept 0xFF x y := by simp [FlagsKept]

section
variable (b : Byte)

theorem inc8_keeps (v : Byte) : FlagsKept 0xFE (inc8 v (.ofByte b)).2.toByte b := by
  simp [Flags.kept_iff, inc8, sz53, Flags.ofByte]
theorem dec8_keeps (v : Byte) : FlagsKept 0xFE (dec8 v (.ofByte b)).2.toByte b := by
  simp [Flags.kept_iff, dec8, sz53, Flags.ofByte]
theorem rotA_keeps (op : RotOp) (a : Byte) : FlagsKept 0x3B (rotA op a (.ofByte b)).2.toByte b := by
  simp [Flags.kept_iff, rotA, Flags.ofByte]
theorem add16_keeps (v w : Word) : FlagsKept 0x3B (add16 v w (.ofByte b)).2.toByte b := by
  simp [Flags.kept_iff, add16, Flags.ofByte]
theorem daa8_keeps (a : Byte) : FlagsKept 0xFD (daa8 a (.ofByte b)).2.toByte b := by
  simp [Flags.kept_iff, daa8, sz53p, sz53, Flags.ofByte]
theorem cpl8_keeps (a : Byte) : FlagsKept 0x3A (cpl8 a (.ofByte b)).2.toByte b := by
  simp [Flags.kept_iff, cpl8, Flags.ofByte]
theorem scfFlags_keeps (q a : Byte) : FlagsKept 0x3B (scfFlags q b a).toByte b := by
  simp [Flags.kept_iff, scfFlags, Flags.ofByte]
theorem ccfFlags_keeps (q a : Byte) : FlagsKept 0x3B (ccfFlags q b a).toByte b := by
  simp [Flags.kept_iff, ccfFlags, Flags.ofByte]
theorem bitFlags_keeps (k : BitVec 3) (v src : Byte) : FlagsKept 0xFE (bitFlags k v src (.ofByte b)).toByte b := by
  simp [Flags.kept_iff, bitFlags, Flags.ofByte]
theorem inFlags_keeps (v : Byte) : FlagsKept 0xFE (inFlags v (.ofByte b)).toByte b := by
  simp [Flags.kept_iff, inFlags, sz53p, sz53, Flags.ofByte]
theorem ldAirFlags_keeps (v : Byte) (iff2 : Bool) : FlagsKept 0xFE (ldAirFlags v iff2 (.ofByte b)).toByte b := by
  simp [Flags.kept_iff, ldAirFlags, sz53, Flags.ofByte]
theorem ldBlockFlags_keeps (v a : Byte) (bc : Word) : FlagsKept 0x3E (ldBlockFlags v a bc (.ofByte b)).toByte b := by
  simp [Flags.kept_iff, ldBlockFlags, Flags.ofByte]
theorem cpBlockFlags_keeps (a v : Byte) (bc : Word) : FlagsKept 0xFE (cpBlockFlags a v bc (.ofByte b)).toByte b := by
  simp [Flags.kept_iff, cpBlockFlags, Flags.ofByte]

end

/-! ### Every meaning at once -/

/-- The registers `r` that an instruction may leave where it began with `g`: those its rule names have been written and no others but Q (R46), of the
flags those of its mask (R24), and Q holds the flags that were written (R35). -/
structure RegsAfter (i : Instr) (g r : Regs) : Prop where
  written : r = g.mix r (.q :: i.writes)
  flags : FlagsKept i.flagMask r.f g.f
  q : r.q = if i.flagMask = 0 ∨ behindPrefixes i = .exAfAf ∨ behindPrefixes i = .popRr .af then 0 else r.f

/-- The meaning of `i` answers `o`: it completes, with registers that its rule allows. -/
def Leaves (i : Instr) (g : Regs) (o : Out) : Prop := ∃ t, o = .next t ∧ RegsAfter i g t.regs

section
variable {i : Instr} {g : Regs} {o : Out} {t : State}

/-- An instruction that writes no flag. -/
theorem Leaves.plain (ht : o = .next t) (written : t.regs = g.mix t.regs (.q :: i.writes)) (hf : t.regs.f = g.f) (hq : t.regs.q = 0)
    (mask : i.flagMask = 0) : Leaves i g o := by
  refine ⟨t, ht, written, ?_, by simp [mask, hq]⟩
  rw [hf]
  exact flagsKept_refl _ _

/-- An instruction that writes the flags of its mask. -/
theorem Leaves.flagged {m : Byte} (ht : o = .next t) (written : t.regs = g.mix t.regs (.q :: i.writes)) (hq : t.regs.q = t.regs.f)
    (hf : FlagsKept m t.regs.f g.f) (mask : i.flagMask = m := by rfl) (nonzero : m ≠ 0 := by decide)
    (loads : ¬ (behindPrefixes i = .exAfAf ∨ behindPrefixes i = .popRr .af) := by simp [behindPrefixes]) : Leaves i g o := by
  subst mask
  exact ⟨t, ht, written, hf, by rw [hq, if_neg (not_or.2 ⟨nonzero, loads⟩)]⟩

/-- An instruction that loads or exchanges F as data. -/
theorem Leaves.loaded (ht : o = .next t) (written : t.regs = g.mix t.regs (.q :: i.writes)) (hq : t.regs.q = 0)
    (mask : i.flagMask = 0xFF) (loads : behindPrefixes i = .exAfAf ∨ behindPrefixes i = .popRr .af) : Leaves i g o :=
  ⟨t, ht, written, mask ▸ flagsKept_all _ _, by rw [hq, if_pos (.inr loads)]⟩

theorem Leaves.ignored {x : XY} (h : Leaves i g o) : Leaves (.ignored x i) g o := by
  obtain ⟨t, ht, written, flags, q⟩ := h
  exact ⟨t, ht, written, flags, q⟩

end

section
variable (g : Regs) (k : R8) (v y z : Byte) (w : Word)

theorem Regs.setR8_f : (g.setR8 k v).f = g.f := by cases k <;> rfl
theorem Regs.mix_setR8 : { g.setR8 k v with q := z } = g.mix { g.setR8 k v with q := z } [.q, k.name] := by cases k <;> rfl
theorem Regs.mix_setR8_f : { g.setR8 k v with f := y, q := z } = g.mix { g.setR8 k v with f := y, q := z } [.q, k.name, .f] := by
  cases k <;> rfl
theorem Regs.mix_setR8_wz : { { g with wz := w }.setR8 k v with q := z } = g.mix { { g with wz := w }.setR8 k v with q := z } [.q, k.name, .wz] := by
  cases k <;> rfl
theorem Regs.mix_setR8_f_wz : { { g with wz := w }.setR8 k v with f := y, q := z } =
    g.mix { { g with wz := w }.setR8 k v with f := y, q := z } [.q, k.name, .f, .wz] := by
  cases k <;> rfl

end

theorem exec_leaves (i : Instr) (s : State) : Leaves i s.regs (exec i s) := by
  obtain ⟨⟨⟩⟩ := s
  induction i with
  | ignored x i ih => rw [exec_ignored]; exact ih.ignored
  | _ => ?_
  all_goals unfold exec
  case nop | nopEd7 | holeX0 | holeX3 | holeX2LowY | holeX2HighZ | jr | ldPairA | ldMemHl | ldMemXy | ldMemA | ldAPair | ldHlMem | ldAMem
      | ldHlN | ldIdxN | halt | haltXy | ldMemR | ldIdxR | ret | exx | jpHl | jpXy | ldSpHl | ldSpXy | jp | outNA | inAN | exSpHl | exDeHl
      | di | ei | pushRr | pushXy | call | rst | resMem | resIdx | setMem | setIdx | outCR | outC0 | ldMemRp | retn | reti | im | ldIA
      | ldRA => exact .plain rfl rfl rfl rfl rfl
  case ldRN | ldRR | ldRMem | resR | setR => exact .plain rfl (Regs.mix_setR8 _ _ _ _) (Regs.setR8_f _ _ _) rfl rfl
  case ldRIdx | resIdxR | setIdxR => exact .plain rfl (Regs.mix_setR8_wz _ _ _ _ _) (Regs.setR8_f _ _ _) rfl rfl
  case ldRRXy x r _ => cases r <;> cases x <;> exact .plain rfl rfl rfl rfl rfl
  case ldHalfN x k _ => cases x <;> cases k <;> exact .plain rfl rfl rfl rfl rfl
  case ldXyNn x _ | incXy x | decXy x | ldXyMem x _ | popXy x | exSpXy x => cases x <;> exact .plain rfl rfl rfl rfl rfl
  case ldRpNn p _ | incRp p | decRp p | ldRpMem p _ => cases p <;> exact .plain rfl rfl rfl rfl rfl
  case jrCc =>
    simp only [execJrCc]
    split <;> exact .plain rfl rfl rfl rfl rfl
  case djnz =>
    simp only [execDjnz]
    split <;> exact .plain rfl rfl rfl rfl rfl
  case retCc =>
    simp only [execRetCc]
    split <;> exact .plain rfl rfl rfl rfl rfl
  case jpCc =>
    simp only [execJpCc]
    split <;> exact .plain rfl rfl rfl rfl rfl
  case callCc =>
    simp only [execCallCc]
    split <;> exact .plain rfl rfl rfl rfl rfl
  case exAfAf => exact .loaded rfl rfl rfl rfl (.inl rfl)
  case popRr p =>
    cases p
    case af => exact .loaded rfl rfl rfl rfl (.inr rfl)
    all_goals exact .plain rfl rfl rfl rfl rfl
  case addMem | addHalf | addIdx | addN | adcMem | adcHalf | adcIdx | adcN | subMem | subHalf | subIdx | subN | sbcMem | sbcHalf | sbcIdx
      | sbcN | andMem | andHalf | andIdx | andN | xorMem | xorHalf | xorIdx | xorN | orMem | orHalf | orIdx | orN | cpMem | cpHalf
      | cpIdx | cpN | addR | adcR | subR | sbcR | andR | xorR | orR | cpR | sbcHlRp | adcHlRp | neg | rlcMem | rrcMem | rlMem | rrMem | slaMem | sraMem | sllMem | srlMem | rlcIdx | rrcIdx | rlIdx
      | rrIdx | slaIdx | sraIdx | sllIdx | srlIdx | ini | outi | ind | outd => exact .flagged rfl rfl rfl (flagsKept_all _ _)
  case rlcR | rrcR | rlR | rrR | slaR | sraR | sllR | srlR => exact .flagged rfl (Regs.mix_setR8_f _ _ _ _ _) rfl (flagsKept_all _ _)
  case rlcIdxR | rrcIdxR | rlIdxR | rrIdxR | slaIdxR | sraIdxR | sllIdxR | srlIdxR =>
    exact .flagged rfl (Regs.mix_setR8_f_wz _ _ _ _ _ _) rfl (flagsKept_all _ _)
  case inir | otir | indr | otdr =>
    simp only [execInir, execOtir, execIndr, execOtdr, State.blockIn, State.blockOut, State.readPort_eq, State.readMem_eq]
    split <;> exact .flagged rfl rfl rfl (flagsKept_all _ _)
  case addHlRp => exact .flagged rfl rfl rfl (add16_keeps _ _ _)
  case addXyRp x _ => cases x <;> exact .flagged rfl rfl rfl (add16_keeps _ _ _)
  case rlca => exact .flagged rfl rfl rfl (rotA_keeps _ .rlc _)
  case rrca => exact .flagged rfl rfl rfl (rotA_keeps _ .rrc _)
  case rla => exact .flagged rfl rfl rfl (rotA_keeps _ .rl _)
  case rra => exact .flagged rfl rfl rfl (rotA_keeps _ .rr _)
  case daa => exact .flagged rfl rfl rfl (daa8_keeps _ _)
  case cpl => exact .flagged rfl rfl rfl (cpl8_keeps _ _)
  case scf => exact .flagged rfl rfl rfl (scfFlags_keeps _ _ _)
  case ccf => exact .flagged rfl rfl rfl (ccfFlags_keeps _ _ _)
  case incR => exact .flagged rfl (Regs.mix_setR8_f _ _ _ _ _) rfl (inc8_keeps _ _)
  case incHalf x k => cases x <;> cases k <;> exact .flagged rfl rfl rfl (inc8_keeps _ _)
  case incMem | incIdx => exact .flagged rfl rfl rfl (inc8_keeps _ _)
  case decR => exact .flagged rfl (Regs.mix_setR8_f _ _ _ _ _) rfl (dec8_keeps _ _)
  case decHalf x k => cases x <;> cases k <;> exact .flagged rfl rfl rfl (dec8_keeps _ _)
  case decMem | decIdx => exact .flagged rfl rfl rfl (dec8_keeps _ _)
  case bitR | bitMem | bitIdx => exact .flagged rfl rfl rfl (bitFlags_keeps _ _ _ _)
  case inRC r => cases r <;> exact .flagged rfl rfl rfl (inFlags_keeps _ _)
  case inC | rrd | rld => exact .flagged rfl rfl rfl (inFlags_keeps _ _)
  case ldAI | ldAR => exact .flagged rfl rfl rfl (ldAirFlags_keeps _ _ _)
  case ldi | ldd => exact .flagged rfl rfl rfl (ldBlockFlags_keeps _ _ _ _)
  case cpi | cpd => exact .flagged rfl rfl rfl (cpBlockFlags_keeps _ _ _ _)
  case ldir | lddr =>
    simp only [execLdir, execLddr, State.blockLoad, State.readMem_eq]
    split <;> exact .flagged rfl rfl rfl (ldBlockFlags_keeps _ _ _ _)
  case cpir | cpdr =>
    simp only [execCpir, execCpdr, State.blockCompare, State.readMem_eq]
    split <;> exact .flagged rfl rfl rfl (cpBlockFlags_keeps _ _ _ _)

/-- What an instruction can do to the registers, said once for the statements about them. -/
theorem exec_regsAfter {i : Instr} {s t : State} (h : exec i s = .next t) : RegsAfter i s.regs t.regs := by
  obtain ⟨u, hu, after⟩ := exec_leaves i s
  obtain rfl : t = u := Host.Outcome.next.inj (h.symm.trans hu)
  exact after

/-- Settles O27: the registers after are those before, but for the ones that the rule names. -/
theorem registersChangeOnlyWhereStated : Obligations.RegistersChangeOnlyWhereStated := by
  intro i s t n h hn hq
  have unwritten : n ∉ RegName.q :: i.writes := by simp [hn, hq]
  rw [(exec_regsAfter h).written, Regs.mix_agree, if_neg unwritten]
  exact Regs.agree_refl _ _

/-- Settles O28. -/
theorem flagsChangeOnlyWhereStated : Obligations.FlagsChangeOnlyWhereStated := fun _ _ _ h => (exec_regsAfter h).flags

/-- Settles O32: an instruction ends by setting Q, and so does every interrupt entry. -/
theorem qHoldsFlagsWritten : Obligations.QHoldsFlagsWritten := by
  refine ⟨fun _ _ _ h => (exec_regsAfter h).q, fun s => rfl, fun s t h => ?_⟩
  unfold State.intEntry State.inta at h
  dsimp only at h
  split at h
  · split at h
    · cases h
      rfl
    · cases h
  · cases h
    rfl
  · cases h
    rfl

end Sys2Proof.Machine
end

section
/-! PROOFS. The fetch of an instruction: PC and R (R26, R29). -/

namespace Sys2Proof.Machine

open Laws.FetchesItsBytes

/-! ### Fetching -/

/-- `t` is `s` with its fetch further on by `bytes` bytes, `m1` of them by M1 cycles: PC has moved, R has counted, and of the registers these two and
`instr` alone have changed. -/
structure FetchedOn (s t : State) (bytes m1 : Nat) : Prop where
  pc : t.regs.pc = s.regs.pc + BitVec.ofNat 16 bytes
  bit7 : t.regs.r.getLsbD 7 = s.regs.r.getLsbD 7
  count : t.regs.r.toNat % 128 = (s.regs.r.toNat + m1) % 128
  regs : t.regs = { s.regs with pc := t.regs.pc, r := t.regs.r, instr := t.regs.instr }
  mem : t.mem = s.mem
  portOut : t.portOut = s.portOut

theorem FetchedOn.refl (s : State) : FetchedOn s s 0 0 := ⟨by simp, rfl, rfl, rfl, rfl, rfl⟩

theorem FetchedOn.trans {s t u : State} {b1 m1 b2 m2 : Nat} (h1 : FetchedOn s t b1 m1) (h2 : FetchedOn t u b2 m2) :
    FetchedOn s u (b1 + b2) (m1 + m2) where
  pc := by rw [h2.pc, h1.pc, BitVec.ofNat_add, BitVec.add_assoc]
  bit7 := h2.bit7.trans h1.bit7
  count := by
    have first := h1.count
    have second := h2.count
    omega
  regs := by
    have second := h2.regs
    rw [h1.regs] at second
    exact second
  mem := h2.mem.trans h1.mem
  portOut := h2.portOut.trans h1.portOut

theorem FetchedOn.halted {s t : State} {b m1 : Nat} (h : FetchedOn s t b m1) : t.regs.halted = s.regs.halted := by rw [h.regs]

/-- An M1 fetch of a core that is awake (R96). -/
theorem fetchedOn_fetchOpcode {s : State} (h : s.regs.halted = false) : FetchedOn s s.fetchOpcode 1 1 where
  pc := by simp [State.fetchOpcode, Regs.fetched, h]
  bit7 := (refreshInc_spec s.regs.r).1
  count := (refreshInc_spec s.regs.r).2
  regs := rfl
  mem := rfl
  portOut := rfl

theorem fetchedOn_fetchOperand (s : State) : FetchedOn s s.fetchOperand 1 0 := ⟨rfl, rfl, rfl, rfl, rfl, rfl⟩

theorem fetchedOn_fill (s : State) (n : Nat) : FetchedOn s (s.fill n) 0 0 := ⟨by simp, rfl, rfl, rfl, rfl, rfl⟩

/-- The cycles of a fetch, in order. -/
theorem fetchedOn_fetchAll {s : State} (h : s.regs.halted = false) (cs : List FetchCycle) :
    FetchedOn s (s.fetchAll cs) (byteCycles cs) (cs.count .opcode) := by
  induction cs generalizing s with
  | nil => exact .refl s
  | cons c cs ih =>
    cases c with
    | opcode =>
      have first := fetchedOn_fetchOpcode h
      have all := first.trans (ih (first.halted.trans h))
      rwa [Nat.add_comm 1, Nat.add_comm 1, ← List.count_cons_self] at all
    | operand =>
      have first := fetchedOn_fetchOperand s
      have all := first.trans (ih (first.halted.trans h))
      rw [Nat.add_comm 1, Nat.zero_add] at all
      have skip : (FetchCycle.operand :: cs).count .opcode = cs.count .opcode := by simp
      rwa [skip]
    | filler n =>
      have all := (fetchedOn_fill s n).trans (ih (s := s.fill n) h)
      rw [Nat.zero_add, Nat.zero_add] at all
      have skip : (FetchCycle.filler n :: cs).count .opcode = cs.count .opcode := by simp
      rwa [skip]

/-- Settles O25: the fetch of an encoding reads each of its bytes once. -/
theorem fetchMovesPcAndRefresh : Obligations.FetchMovesPcAndRefresh := by
  intro s i hhalted hmod
  have plan : s.fetchInstr i = s.fetchAll (fetchCycles (encode i)) := by rw [State.fetchInstr, State.fetchPlan, hmod]
  have fetched := fetchedOn_fetchAll hhalted (fetchCycles (encode i))
  rw [byteCycles_fetchCycles, ← plan] at fetched
  exact ⟨fetched.pc, fetched.bit7, fetched.count, fetched.regs, fetched.mem, fetched.portOut⟩

/-! ### R -/

/-- No operand of an instruction names R: of the meanings LD R,A alone writes it (R29). -/
theorem Instr.contains_r_writes {i : Instr} (h : behindPrefixes i ≠ .ldRA) : i.writes.contains .r = false := by
  induction i with
  | ignored x i ih => exact ih h
  | ldRA => exact absurd rfl h
  | incR r | decR r | rlcR r | rrcR r | rlR r | rrR r | slaR r | sraR r | sllR r | srlR r | ldRN r | ldRR r | ldRMem r | resR _ r
  | setR _ r | ldRIdx r | resIdxR _ _ _ r | setIdxR _ _ _ r | rlcIdxR _ _ r | rrcIdxR _ _ r | rlIdxR _ _ r | rrIdxR _ _ r
  | slaIdxR _ _ r | sraIdxR _ _ r | sllIdxR _ _ r | srlIdxR _ _ r | inRC r => cases r <;> rfl
  | ldXyNn x | incXy x | ldHalfN x | decXy x | addXyRp x | ldXyMem x | exSpXy x | incHalf x | decHalf x | popXy x => cases x <;> rfl
  | ldRRXy x r => cases r <;> cases x <;> rfl
  | ldRpNn p | incRp p | decRp p | ldRpMem p => cases p <;> rfl
  | popRr p => cases p <;> rfl
  | _ => rfl

/-- Settles O53: `refreshInc` at each M1 cycle, and no meaning but that of LD R,A writes R. -/
theorem refreshCountsM1Cycles : Obligations.RefreshCountsM1Cycles := by
  have inc (r : Byte) : (refreshInc r).getLsbD 7 = r.getLsbD 7 ∧ (refreshInc r).toNat % 128 = (r.toNat % 128 + 1) % 128 := by
    rw [Nat.mod_add_mod]
    exact refreshInc_spec r
  refine ⟨fun s => inc s.regs.r, fun s => inc s.regs.r, fun s n => ⟨rfl, rfl⟩, fun i s t hi h => ?_,
    fun s => ⟨_, _, rfl, rfl, rfl, rfl⟩, fun x d op => by cases x <;> rfl⟩
  have unwritten : RegName.r ∉ i.writes := by simpa using Instr.contains_r_writes hi
  simpa [Regs.agree] using registersChangeOnlyWhereStated i s t .r h unwritten nofun

end Sys2Proof.Machine
end

section
/-! PROOFS. Q and WZ: which meanings depend on them (R31, R36). -/

namespace Sys2Proof.Machine

/-! ### Rules -/

/-- `s` with other values of Q and WZ. -/
def State.withHidden (s : State) (q : Byte) (w : Word) : State := s.setRegs { s.regs with q := q, wz := w }

/-- From other values of Q and WZ the meaning `f` has the same outcome, but for WZ, which may be another where the WZ it began with was. -/
def Blind (f : State → Out) : Prop :=
  ∀ s, ∃ t, f s = .next t ∧ ∀ q w, ∃ w2, f (s.withHidden q w) = .next (t.setWz w2) ∧ (w = s.regs.wz → w2 = t.regs.wz)

/-- A meaning that leaves WZ. -/
theorem Blind.keepsWz {f : State → Out} (h : ∀ s, ∃ t, f s = .next t ∧ t.regs.wz = s.regs.wz ∧ ∀ q w, f (s.withHidden q w) = .next (t.setWz w)) :
    Blind f := by
  intro s
  obtain ⟨t, ht, kept, hidden⟩ := h s
  exact ⟨t, ht, fun q w => ⟨w, hidden q w, (·.trans kept.symm)⟩⟩

/-- A meaning that writes WZ. -/
theorem Blind.writesWz {f : State → Out} (h : ∀ s, ∃ t, f s = .next t ∧ ∀ q w, f (s.withHidden q w) = .next t) : Blind f := by
  intro s
  obtain ⟨t, ht, hidden⟩ := h s
  exact ⟨t, ht, fun q w => ⟨t.regs.wz, hidden q w, fun _ => rfl⟩⟩

theorem Blind.ite {c : State → Prop} [∀ s, Decidable (c s)] {f g : State → Out} (hc : ∀ s q w, c (s.withHidden q w) ↔ c s) (hf : Blind f)
    (hg : Blind g) : Blind fun s => if c s then f s else g s := by
  intro s
  simp only [hc]
  split
  · exact hf s
  · exact hg s

theorem Blind.readMem {a : State → Word} {f : Byte → State → Out} (ha : ∀ s q w, a (s.withHidden q w) = a s) (hf : ∀ v, Blind (f v)) :
    Blind fun s => s.readMem (a s) f := by
  intro s
  obtain ⟨t, ht, hidden⟩ := hf (s.busByte .mem (a s)) (s.afterRead (a s))
  refine ⟨t, ht, fun q w => ?_⟩
  simp only [ha]
  exact hidden q w

/-- The indexed address goes to WZ, whatever stood there (R154). -/
theorem Blind.indexed {x : XY} {d : Byte} {n : Nat} {f : Word → State → Out} (hf : ∀ ea, Blind (f ea)) : Blind fun s => s.indexed x d n f := by
  intro s
  let u : State := { s.setWz (s.regs.ea x d) with dec := s.dec.eaComputed }.fill n
  obtain ⟨t, ht, hidden⟩ := hf (s.regs.ea x d) u
  have same (q : Byte) (w : Word) : (s.withHidden q w).regs.ea x d = s.regs.ea x d := by cases x <;> rfl
  refine ⟨t, ht, fun q w => ?_⟩
  obtain ⟨w2, hw2, restored⟩ := hidden q (s.regs.ea x d)
  refine ⟨w2, ?_, fun _ => restored rfl⟩
  simp only [State.indexed, same]
  exact hw2

/-! ### The operations that several meanings share -/

theorem blind_alu (op : AluOp) {b : State → Byte} (hb : ∀ s q w, b (s.withHidden q w) = b s) : Blind fun s => s.alu op (b s) :=
  .keepsWz fun s => ⟨_, rfl, rfl, fun q w => by rw [hb]; rfl⟩

theorem blind_aluMem (op : AluOp) : Blind fun s => s.aluMem op := .readMem (fun _ _ _ => rfl) fun _ => blind_alu op fun _ _ _ => rfl

theorem blind_aluIdx (op : AluOp) (x : XY) (d : Byte) : Blind fun s => s.aluIdx op x d :=
  .indexed fun _ => .readMem (fun _ _ _ => rfl) fun _ => blind_alu op fun _ _ _ => rfl

theorem blind_setR8 (r : R8) {v : State → Byte} (hv : ∀ s q w, v (s.withHidden q w) = v s) :
    Blind fun s => (s.setRegs (s.regs.setR8 r (v s))).done := by
  cases r <;> exact .keepsWz fun s => ⟨_, rfl, rfl, fun q w => by rw [hv]; rfl⟩

theorem blind_setR8_flags (r : R8) {v : State → Byte × Flags} (hv : ∀ s q w, v (s.withHidden q w) = v s) :
    Blind fun s => (s.setRegs (s.regs.setR8 r (v s).1)).doneFlags (v s).2 := by
  cases r <;> exact .keepsWz fun s => ⟨_, rfl, rfl, fun q w => by rw [hv]; rfl⟩

theorem blind_rotReg (op : RotOp) (r : R8) : Blind fun s => s.rotReg op r :=
  blind_setR8_flags r (v := fun s => rot8 op (s.regs.getR8 r) s.flags) fun _ _ _ => rfl

theorem blind_modifyMem {a : State → Word} (ha : ∀ s q w, a (s.withHidden q w) = a s) (g : Byte → Flags → Byte × Flags) :
    Blind fun s => s.modifyMem (a s) g :=
  .keepsWz fun s => ⟨_, rfl, rfl, fun q w => by rw [ha]; rfl⟩

theorem blind_modifyIdx (g : Byte → Flags → Byte × Flags) (x : XY) (d : Byte) (n : Nat) :
    Blind fun s => s.indexed x d n fun ea s => s.modifyMem ea g :=
  .indexed fun _ => blind_modifyMem (fun _ _ _ => rfl) g

theorem blind_rotIdxReg (op : RotOp) (x : XY) (d : Byte) (r : R8) : Blind fun s => s.rotIdxReg op x d r := by
  refine .indexed fun _ => .readMem (fun _ _ _ => rfl) fun _ => ?_
  cases r <;> exact .keepsWz fun _ => ⟨_, rfl, rfl, fun _ _ => rfl⟩

theorem blind_rewriteMem {a : State → Word} (ha : ∀ s q w, a (s.withHidden q w) = a s) (g : Byte → Byte) : Blind fun s => s.rewriteMem (a s) g :=
  .keepsWz fun s => ⟨_, rfl, rfl, fun q w => by rw [ha]; rfl⟩

theorem blind_rewriteIdxReg (g : Byte → Byte) (x : XY) (d : Byte) (r : R8) : Blind fun s => s.rewriteIdxReg x d r g := by
  refine .indexed fun _ => .readMem (fun _ _ _ => rfl) fun _ => ?_
  cases r <;> exact .keepsWz fun _ => ⟨_, rfl, rfl, fun _ _ => rfl⟩

/-- A block iteration that may repeat, as one register transform (R350). -/
theorem doneFlags_repeatBlock (s : State) (again wz : Bool) (f : Flags) :
    (if again then s.repeatBlock wz else s).doneFlags f = .next { s with
      events := if again then .filler 5 :: s.events else s.events
      regs := { s.regs with
        pc := if again then s.regs.pc - 2 else s.regs.pc
        wz := if again && wz then s.regs.pc - 2 + 1 else s.regs.wz
        f := f.toByte
        q := f.toByte } } := by
  cases again <;> cases wz <;> rfl

theorem blind_blockLoad (dir : Dir) (again : Bool) : Blind fun s => s.blockLoad dir again := by
  intro s
  simp only [State.blockLoad, State.readMem_eq, doneFlags_repeatBlock]
  exact ⟨_, rfl, fun _ _ => ⟨_, rfl, fun h => h ▸ rfl⟩⟩

theorem blind_blockCompare (dir : Dir) (again : Bool) : Blind fun s => s.blockCompare dir again := by
  intro s
  simp only [State.blockCompare, State.readMem_eq, doneFlags_repeatBlock]
  exact ⟨_, rfl, fun _ _ => ⟨_, rfl, fun h => h ▸ rfl⟩⟩

theorem blind_blockIn (dir : Dir) (again : Bool) : Blind fun s => s.blockIn dir again := by
  refine .writesWz fun s => ?_
  simp only [State.blockIn, State.readPort_eq, doneFlags_repeatBlock]
  exact ⟨_, rfl, fun _ _ => rfl⟩

theorem blind_blockOut (dir : Dir) (again : Bool) : Blind fun s => s.blockOut dir again := by
  refine .writesWz fun s => ?_
  simp only [State.blockOut, State.readMem_eq, doneFlags_repeatBlock]
  exact ⟨_, rfl, fun _ _ => rfl⟩

/-! ### Every meaning at once -/

/-- The meaning of an instruction is that of what stands behind its prefixes (R238). -/
theorem exec_behindPrefixes (i : Instr) (s : State) : exec i s = exec (behindPrefixes i) s := by
  induction i with
  | ignored x i ih => exact (exec_ignored x i s).trans ih
  | _ => rfl

/-- Q and WZ are hidden from every meaning but those of SCF, CCF and BIT b,(HL). -/
theorem exec_blind {i : Instr} (hscf : behindPrefixes i ≠ .scf) (hccf : behindPrefixes i ≠ .ccf) (hbit : ∀ b, behindPrefixes i ≠ .bitMem b) :
    Blind fun s => exec i s := by
  induction i with
  | ignored x i ih =>
    simp only [exec_ignored]
    exact ih hscf hccf hbit
  | scf => exact absurd rfl hscf
  | ccf => exact absurd rfl hccf
  | bitMem b => exact absurd rfl (hbit b)
  | _ => ?_
  all_goals unfold exec
  case nop | exAfAf | ldHlN | halt | haltXy | ldMemR | exx | jpHl | jpXy | ldSpHl | ldSpXy | exDeHl | di | ei | pushRr | pushXy | im | ldIA
      | ldRA | nopEd7 | holeX0 | holeX3 | holeX2LowY | holeX2HighZ | rlca | rrca | rla | rra | daa | cpl | neg | ldAI | ldAR | bitR =>
    refine .keepsWz ?_
    rintro ⟨⟨⟩⟩
    exact ⟨_, rfl, rfl, fun _ _ => rfl⟩
  case jr | ldPairA | ldMemHl | ldMemXy | ldMemA | ldAPair | ldHlMem | ldAMem | ret | jp | outNA | inAN | exSpHl | call | rst | outCR | outC0
      | ldMemRp | retn | reti | addHlRp | sbcHlRp | adcHlRp | inC | rrd | rld =>
    refine .writesWz ?_
    rintro ⟨⟨⟩⟩
    exact ⟨_, rfl, fun _ _ => rfl⟩
  case ldRN | ldRR | resR | setR =>
    simp only [execLdRN, execLdRR, execResR, execSetR]
    exact blind_setR8 _ fun _ _ _ => rfl
  case ldRMem =>
    simp only [execLdRMem]
    exact .readMem (fun _ _ _ => rfl) fun _ => blind_setR8 _ fun _ _ _ => rfl
  case ldRIdx =>
    simp only [execLdRIdx]
    exact .indexed fun _ => .readMem (fun _ _ _ => rfl) fun _ => blind_setR8 _ fun _ _ _ => rfl
  case incR r =>
    simp only [execIncR]
    exact blind_setR8_flags r (v := fun s => inc8 (s.regs.getR8 r) s.flags) fun _ _ _ => rfl
  case decR r =>
    simp only [execDecR]
    exact blind_setR8_flags r (v := fun s => dec8 (s.regs.getR8 r) s.flags) fun _ _ _ => rfl
  case ldXyNn x _ | incXy x | decXy x | popXy x =>
    refine .keepsWz ?_
    rintro ⟨⟨⟩⟩
    cases x <;> exact ⟨_, rfl, rfl, fun _ _ => rfl⟩
  case ldHalfN x k _ | incHalf x k | decHalf x k =>
    refine .keepsWz ?_
    rintro ⟨⟨⟩⟩
    cases x <;> cases k <;> exact ⟨_, rfl, rfl, fun _ _ => rfl⟩
  case ldRRXy x r _ =>
    refine .keepsWz ?_
    rintro ⟨⟨⟩⟩
    cases r <;> cases x <;> exact ⟨_, rfl, rfl, fun _ _ => rfl⟩
  case ldRpNn p _ | incRp p | decRp p =>
    refine .keepsWz ?_
    rintro ⟨⟨⟩⟩
    cases p <;> exact ⟨_, rfl, rfl, fun _ _ => rfl⟩
  case popRr p =>
    refine .keepsWz ?_
    rintro ⟨⟨⟩⟩
    cases p <;> exact ⟨_, rfl, rfl, fun _ _ => rfl⟩
  case ldXyMem x _ | exSpXy x | addXyRp x _ =>
    refine .writesWz ?_
    rintro ⟨⟨⟩⟩
    cases x <;> exact ⟨_, rfl, fun _ _ => rfl⟩
  case ldRpMem p _ =>
    refine .writesWz ?_
    rintro ⟨⟨⟩⟩
    cases p <;> exact ⟨_, rfl, fun _ _ => rfl⟩
  case inRC r =>
    refine .writesWz ?_
    rintro ⟨⟨⟩⟩
    cases r <;> exact ⟨_, rfl, fun _ _ => rfl⟩
  case djnz =>
    simp only [execDjnz]
    exact .ite (fun _ _ _ => .rfl) (.keepsWz fun _ => ⟨_, rfl, rfl, fun _ _ => rfl⟩) (.writesWz fun _ => ⟨_, rfl, fun _ _ => rfl⟩)
  case jrCc =>
    simp only [execJrCc]
    exact .ite (fun _ _ _ => .rfl) (.writesWz fun _ => ⟨_, rfl, fun _ _ => rfl⟩) (.keepsWz fun _ => ⟨_, rfl, rfl, fun _ _ => rfl⟩)
  case retCc =>
    simp only [execRetCc]
    refine .ite (fun _ _ _ => .rfl) (.writesWz ?_) (.keepsWz fun _ => ⟨_, rfl, rfl, fun _ _ => rfl⟩)
    rintro ⟨⟨⟩⟩
    exact ⟨_, rfl, fun _ _ => rfl⟩
  case jpCc | callCc =>
    simp only [execJpCc, execCallCc]
    exact .ite (fun _ _ _ => .rfl) (.writesWz fun _ => ⟨_, rfl, fun _ _ => rfl⟩) (.writesWz fun _ => ⟨_, rfl, fun _ _ => rfl⟩)
  case ldIdxN | ldIdxR =>
    simp only [execLdIdxN, execLdIdxR]
    exact .indexed fun _ => .keepsWz fun _ => ⟨_, rfl, rfl, fun _ _ => rfl⟩
  case bitIdx =>
    simp only [execBitIdx]
    exact .indexed fun _ => .readMem (fun _ _ _ => rfl) fun _ => .keepsWz fun _ => ⟨_, rfl, rfl, fun _ _ => rfl⟩
  case addR | addHalf | addN | adcR | adcHalf | adcN | subR | subHalf | subN | sbcR | sbcHalf | sbcN | andR | andHalf | andN | xorR | xorHalf
      | xorN | orR | orHalf | orN | cpR | cpHalf | cpN =>
    simp only [execAddR, execAddHalf, execAddN, execAdcR, execAdcHalf, execAdcN, execSubR, execSubHalf, execSubN, execSbcR, execSbcHalf,
      execSbcN, execAndR, execAndHalf, execAndN, execXorR, execXorHalf, execXorN, execOrR, execOrHalf, execOrN, execCpR, execCpHalf, execCpN]
    exact blind_alu _ fun _ _ _ => rfl
  case addMem | adcMem | subMem | sbcMem | andMem | xorMem | orMem | cpMem =>
    simp only [execAddMem, execAdcMem, execSubMem, execSbcMem, execAndMem, execXorMem, execOrMem, execCpMem]
    exact blind_aluMem _
  case addIdx | adcIdx | subIdx | sbcIdx | andIdx | xorIdx | orIdx | cpIdx =>
    simp only [execAddIdx, execAdcIdx, execSubIdx, execSbcIdx, execAndIdx, execXorIdx, execOrIdx, execCpIdx]
    exact blind_aluIdx _ _ _
  case rlcR | rrcR | rlR | rrR | slaR | sraR | sllR | srlR =>
    simp only [execRlcR, execRrcR, execRlR, execRrR, execSlaR, execSraR, execSllR, execSrlR]
    exact blind_rotReg _ _
  case incMem | decMem =>
    simp only [execIncMem, execDecMem]
    exact blind_modifyMem (fun _ _ _ => rfl) _
  case rlcMem | rrcMem | rlMem | rrMem | slaMem | sraMem | sllMem | srlMem =>
    simp only [execRlcMem, execRrcMem, execRlMem, execRrMem, execSlaMem, execSraMem, execSllMem, execSrlMem, State.rotMem]
    exact blind_modifyMem (fun _ _ _ => rfl) _
  case incIdx | decIdx =>
    simp only [execIncIdx, execDecIdx]
    exact blind_modifyIdx _ _ _ _
  case rlcIdx | rrcIdx | rlIdx | rrIdx | slaIdx | sraIdx | sllIdx | srlIdx =>
    simp only [execRlcIdx, execRrcIdx, execRlIdx, execRrIdx, execSlaIdx, execSraIdx, execSllIdx, execSrlIdx, State.rotIdx]
    exact blind_modifyIdx _ _ _ _
  case rlcIdxR | rrcIdxR | rlIdxR | rrIdxR | slaIdxR | sraIdxR | sllIdxR | srlIdxR =>
    simp only [execRlcIdxR, execRrcIdxR, execRlIdxR, execRrIdxR, execSlaIdxR, execSraIdxR, execSllIdxR, execSrlIdxR]
    exact blind_rotIdxReg _ _ _ _
  case resMem | setMem =>
    simp only [execResMem, execSetMem]
    exact blind_rewriteMem (fun _ _ _ => rfl) _
  case resIdx | setIdx =>
    simp only [execResIdx, execSetIdx]
    exact .indexed fun _ => blind_rewriteMem (fun _ _ _ => rfl) _
  case resIdxR | setIdxR =>
    simp only [execResIdxR, execSetIdxR]
    exact blind_rewriteIdxReg _ _ _ _
  case ldi | ldd | ldir | lddr =>
    simp only [execLdi, execLdd, execLdir, execLddr]
    exact blind_blockLoad _ _
  case cpi | cpd | cpir | cpdr =>
    simp only [execCpi, execCpd, execCpir, execCpdr]
    exact blind_blockCompare _ _
  case ini | ind | inir | indr =>
    simp only [execIni, execInd, execInir, execIndr]
    exact blind_blockIn _ _
  case outi | outd | otir | otdr =>
    simp only [execOuti, execOutd, execOtir, execOtdr]
    exact blind_blockOut _ _

/-- `(Q ^ F) | A` is A after an instruction that wrote the flags, and `F | A` after one that wrote none (R36). -/
theorem scfSource_cases (q f a : Byte) : (q = f → scfSource q f a = a) ∧ (q = 0 → scfSource q f a = f ||| a) := by
  constructor <;> (rintro rfl; simp [scfSource])

theorem bits_of_scfSource {q f a : Byte} {fl : Flags} (hy : fl.y = (scfSource q f a).getLsbD 5) (hx : fl.x = (scfSource q f a).getLsbD 3) :
    fl.toByte.getLsbD 5 = ((q ^^^ f) ||| a).getLsbD 5 ∧ fl.toByte.getLsbD 3 = ((q ^^^ f) ||| a).getLsbD 3 ∧
    (q = f → fl.toByte.getLsbD 5 = a.getLsbD 5 ∧ fl.toByte.getLsbD 3 = a.getLsbD 3) ∧
    (q = 0 → fl.toByte.getLsbD 5 = (f ||| a).getLsbD 5 ∧ fl.toByte.getLsbD 3 = (f ||| a).getLsbD 3) := by
  have y : fl.toByte.getLsbD 5 = (scfSource q f a).getLsbD 5 := (flag5_toByte fl).trans hy
  have x : fl.toByte.getLsbD 3 = (scfSource q f a).getLsbD 3 := (flag3_toByte fl).trans hx
  obtain ⟨wrote, none⟩ := scfSource_cases q f a
  rw [y, x]
  exact ⟨rfl, rfl, fun h => by rw [wrote h]; exact ⟨rfl, rfl⟩, fun h => by rw [none h]; exact ⟨rfl, rfl⟩⟩

/-- Settles O33: Q is hidden from every meaning but those of SCF and CCF, whose F5 and F3 come from `scfSource`. -/
theorem qIsReadOnlyByScfAndCcf : Obligations.QIsReadOnlyByScfAndCcf := by
  constructor
  · intro i s v hscf hccf
    by_cases hbit : ∃ b, behindPrefixes i = .bitMem b
    · obtain ⟨b, hb⟩ := hbit
      rw [exec_behindPrefixes, hb, exec_behindPrefixes i, hb]
      rfl
    · obtain ⟨t, ht, hidden⟩ := exec_blind hscf hccf (fun b hb => hbit ⟨b, hb⟩) s
      obtain ⟨w, hw, kept⟩ := hidden v s.regs.wz
      rw [kept rfl] at hw
      exact hw.trans ht.symm
  · intro i s hi
    obtain rfl | rfl := hi
    · exact ⟨_, rfl, bits_of_scfSource (fl := scfFlags s.regs.q s.regs.f s.regs.a) rfl rfl⟩
    · exact ⟨_, rfl, bits_of_scfSource (fl := ccfFlags s.regs.q s.regs.f s.regs.a) rfl rfl⟩

/-- Settles O34: the one meaning that WZ is not hidden from is left out; SCF and CCF see Q, not WZ. -/
theorem wzShowsOnlyInBitMem : Obligations.WzShowsOnlyInBitMem := by
  intro i s t w hbit h
  by_cases hscf : behindPrefixes i = .scf
  · rw [exec_behindPrefixes, hscf] at h ⊢
    cases h
    exact ⟨_, rfl, rfl⟩
  by_cases hccf : behindPrefixes i = .ccf
  · rw [exec_behindPrefixes, hccf] at h ⊢
    cases h
    exact ⟨_, rfl, rfl⟩
  obtain ⟨u, hu, hidden⟩ := exec_blind hscf hccf hbit s
  obtain rfl : t = u := Host.Outcome.next.inj (h.symm.trans hu)
  obtain ⟨w2, hw2, -⟩ := hidden s.regs.q w
  exact ⟨_, hw2, rfl⟩

end Sys2Proof.Machine
end

section
namespace Sys2Proof.Machine

/-! PROOFS. The decoder reads every encoding back, so a step runs the instruction whose bytes lie in memory at PC (R26, R80, R140 to R160). -/

/-! ### The operand codes -/

@[simp] theorem r8Of_code (r : R8) : r8Of r.code = some r := by cases r <;> rfl

@[simp] theorem withWord_encoded (nn : Word) (rest : List Byte) (k : Word → Instr) : withWord (lo8 nn :: hi8 nn :: rest) k = .ok (k nn) rest := by
  simp [withWord, withTwoBytes]

/-! ### The tables that prefixes lead to (R150) -/

theorem decode_cb (op : Byte) (rest : List Byte) : decode (0xCB#8 :: op :: rest) = .ok (decodeCb op) rest := rfl

theorem decode_ed (op : Byte) (rest : List Byte) : decode (0xED#8 :: op :: rest) = decodeEd op rest := rfl

theorem decode_xyCb (x : XY) (d op : Byte) (rest : List Byte) : decode (x.byte :: 0xCB#8 :: d :: op :: rest) = .ok (decodeXyCb x d op) rest := by
  cases x <;> rfl

theorem decode_ignored {x : XY} {op : Byte} {rest : List Byte} (hcb : op ≠ 0xCB) (h : decodeXy x op rest = none) :
    decode (x.byte :: op :: rest) = (decode (op :: rest)).map (.ignored x) := by
  rw [decode.eq_def]
  simp only [xyOf_byte, if_neg hcb, h]

/-! ### An ignored prefix (R238) -/

theorem eq_of_three_bits (y : BitVec 3) : y = 0 ∨ y = 1 ∨ y = 2 ∨ y = 3 ∨ y = 4 ∨ y = 5 ∨ y = 6 ∨ y = 7 := by revert y; decide

/-- The first byte of an instruction that takes no index is no row under an index modifier (R159). -/
theorem decodeXy_head {i : Instr} (h : i.takesIndex = false) :
    ∃ op tail, encode i = op :: tail ∧ ∀ (x : XY) (rest : List Byte), decodeXy x op rest = none := by
  cases i with
  | addHlRp | ldMemHl | ldHlMem | incMem | decMem | ldHlN | ldRR | halt | ldRMem | ldMemR | addMem | adcMem | subMem | sbcMem | andMem | xorMem
  | orMem | cpMem | jpHl | ldSpHl | exSpHl | rlcR | rrcR | rlR | rrR | slaR | sraR | sllR | srlR | rlcMem | rrcMem | rlMem | rrMem | slaMem
  | sraMem | sllMem | srlMem | bitR | bitMem | resR | resMem | setR | setMem => cases h
  | ldRpNn p | incRp p | decRp p =>
    cases p
    case hl => cases h
    all_goals exact ⟨_, _, rfl, fun _ _ => rfl⟩
  | popRr p | pushRr p =>
    cases p
    case hl => cases h
    all_goals exact ⟨_, _, rfl, fun _ _ => rfl⟩
  | incR r | decR r | ldRN r | addR r | adcR r | subR r | sbcR r | andR r | xorR r | orR r | cpR r =>
    cases r
    case h | l => cases h
    all_goals exact ⟨_, _, rfl, fun _ _ => rfl⟩
  | rst y => obtain rfl | rfl | rfl | rfl | rfl | rfl | rfl | rfl := eq_of_three_bits y <;> exact ⟨_, _, rfl, fun _ _ => rfl⟩
  | jrCc cc => cases cc <;> exact ⟨_, _, rfl, fun _ _ => rfl⟩
  | retCc cc | jpCc cc | callCc cc => cases cc <;> exact ⟨_, _, rfl, fun _ _ => rfl⟩
  | ldPairA p | ldAPair p => cases p <;> exact ⟨_, _, rfl, fun _ _ => rfl⟩
  | ldXyNn x | addXyRp x | ldMemXy x | ldXyMem x | incXy x | incHalf x | incIdx x | decHalf x | decIdx x | ldHalfN x | ldIdxN x | decXy x
  | ldRRXy x | haltXy x | ldRIdx _ x | ldIdxR x | addHalf x | addIdx x | adcHalf x | adcIdx x | subHalf x | subIdx x | sbcHalf x | sbcIdx x
  | andHalf x | andIdx x | xorHalf x | xorIdx x | orHalf x | orIdx x | cpHalf x | cpIdx x | popXy x | jpXy x | ldSpXy x | exSpXy x | pushXy x
  | ignored x | rlcIdx x | rlcIdxR x | rrcIdx x | rrcIdxR x | rlIdx x | rlIdxR x | rrIdx x | rrIdxR x | slaIdx x | slaIdxR x | sraIdx x
  | sraIdxR x | sllIdx x | sllIdxR x | srlIdx x | srlIdxR x | bitIdx x | resIdx x | resIdxR x | setIdx x | setIdxR x =>
    cases x <;> exact ⟨_, _, rfl, fun _ _ => rfl⟩
  | _ => exact ⟨_, _, rfl, fun _ _ => rfl⟩

/-- A DD or FD byte before an instruction that takes no index is an ignored prefix of it (R152, R238). -/
theorem decode_ignored_encode {i : Instr} (x : XY) {rest : List Byte} (h : i.takesIndex = false) :
    decode (encode (.ignored x i) ++ rest) = (decode (encode i ++ rest)).map (.ignored x) := by
  obtain ⟨op, tail, he, none⟩ := decodeXy_head h
  obtain ⟨op2, tail2, he2, hcb⟩ := encode_head_ne_cb i h
  obtain ⟨rfl, rfl⟩ := List.cons.inj (he.symm.trans he2)
  rw [encode, he]
  exact decode_ignored hcb (none x _)

/-! ### Every encoding -/

theorem decodeEd2_lowY (y2 z2 : BitVec 2) : decodeEd2 (0#1 ++ y2) (0#1 ++ z2) = .holeX2LowY y2 z2 := by revert y2 z2; decide
theorem decodeEd2_highZ (y : BitVec 3) (z2 : BitVec 2) : decodeEd2 y (1#1 ++ z2) = .holeX2HighZ y z2 := by revert y z2; decide

/-- The decoder reads every well-formed instruction back from its encoding, whatever bytes follow. -/
theorem decode_encode {i : Instr} (h : i.wf = true) (rest : List Byte) : decode (encode i ++ rest) = .ok i rest := by
  induction i with
  | ignored x i ih =>
    simp only [Instr.wf, Bool.and_eq_true, Bool.not_eq_true'] at h
    rw [decode_ignored_encode x h.1, ih h.2]
    rfl
  | ldMemHl | ldMemA | ldHlMem | ldAMem | jp | call => exact withWord_encoded _ _ _
  | ldXyNn x | ldMemXy x | ldXyMem x => cases x <;> exact withWord_encoded _ _ _
  | ldRpNn p | ldMemRp p | ldRpMem p => cases p <;> exact withWord_encoded _ _ _
  | jpCc cc | callCc cc => cases cc <;> exact withWord_encoded _ _ _
  | retCc cc => cases cc <;> rfl
  | jrCc cc => cases cc <;> rfl
  | addHlRp p | incRp p | decRp p | sbcHlRp p | adcHlRp p => cases p <;> rfl
  | popRr p | pushRr p => cases p <;> rfl
  | ldPairA p | ldAPair p => cases p <;> rfl
  | addXyRp x p => cases x <;> cases p <;> rfl
  | incR r | decR r | ldRN r | ldRMem r | ldMemR r | addR r | adcR r | subR r | sbcR r | andR r | xorR r | orR r | cpR r | rlcR r | rrcR r
  | rlR r | rrR r | slaR r | sraR r | sllR r | srlR r | inRC r | outCR r => cases r <;> rfl
  | ldRR r r2 => cases r <;> cases r2 <;> rfl
  | ldRRXy x r r2 => cases x <;> cases r <;> cases r2 <;> rfl
  | incHalf x k | decHalf x k | ldHalfN x k | addHalf x k | adcHalf x k | subHalf x k | sbcHalf x k | andHalf x k | xorHalf x k | orHalf x k
  | cpHalf x k => cases x <;> cases k <;> rfl
  | ldRIdx r x | ldIdxR x _ r | rlcIdxR x _ r | rrcIdxR x _ r | rlIdxR x _ r | rrIdxR x _ r | slaIdxR x _ r | sraIdxR x _ r | sllIdxR x _ r
  | srlIdxR x _ r => cases x <;> cases r <;> rfl
  | incXy x | incIdx x | decIdx x | ldIdxN x | decXy x | haltXy x | addIdx x | adcIdx x | subIdx x | sbcIdx x | andIdx x | xorIdx x | orIdx x
  | cpIdx x | popXy x | jpXy x | ldSpXy x | exSpXy x | pushXy x | rlcIdx x | rrcIdx x | rlIdx x | rrIdx x | slaIdx x | sraIdx x | sllIdx x
  | srlIdx x => cases x <;> rfl
  | rst y => obtain rfl | rfl | rfl | rfl | rfl | rfl | rfl | rfl := eq_of_three_bits y <;> rfl
  | bitR | resR | setR => simp [encode, decode_cb, decodeCb]
  | bitMem | resMem | setMem => simp [encode, decode_cb, decodeCb, r8Of]
  | bitIdx | resIdxR | setIdxR => simp [encode, decode_xyCb, decodeXyCb]
  | resIdx | setIdx => simp [encode, decode_xyCb, decodeXyCb, r8Of]
  | neg | im => simp [encode, decode_ed, decodeEd, decodeEd1]
  | retn y =>
    have hy : y ≠ 1#3 := by simpa [Instr.wf] using h
    simp [encode, decode_ed, decodeEd, decodeEd1, hy]
  | nopEd7 y0 => obtain rfl | rfl := BitVec.eq_zero_or_eq_one y0 <;> rfl
  | holeX0 | holeX3 => simp [encode, decode_ed, decodeEd]
  | holeX2LowY y2 z2 => simp [encode, decode_ed, decodeEd, decodeEd2_lowY]
  | holeX2HighZ y z2 => simp [encode, decode_ed, decodeEd, decodeEd2_highZ]
  | _ => rfl

/-! ### The bytes ahead -/

/-- Memory that holds `bs` from `a` on, modulo 2^16, gives them first (R80). -/
theorem Memory.bytesFrom_eq_append {m : Memory} {bs : List Byte} {n : Nat} {a : Word} (hlen : bs.length ≤ n)
    (h : ∀ k (hk : k < bs.length), m.read (a + BitVec.ofNat 16 k).toNat = bs[k]) : ∃ rest, m.bytesFrom n a = bs ++ rest := by
  induction bs generalizing n a with
  | nil => exact ⟨_, rfl⟩
  | cons b bs ih =>
    obtain _ | n := n
    · cases hlen
    have head : m.read a.toNat = b := by simpa using h 0 (Nat.succ_pos _)
    obtain ⟨rest, hrest⟩ := ih (n := n) (a := a + 1) (Nat.le_of_succ_le_succ hlen) fun k hk => by
      have shift : a + BitVec.ofNat 16 (k + 1) = a + 1 + BitVec.ofNat 16 k := by
        rw [Nat.add_comm, BitVec.ofNat_add, BitVec.add_assoc]
        rfl
      exact shift ▸ h (k + 1) (Nat.succ_lt_succ hk)
    exact ⟨rest, by rw [Memory.bytesFrom, head, hrest]; rfl⟩

theorem State.decodeNext_of_memory {s : State} (hmod : s.dec.modifier = none) (hdata : s.dataIn = []) :
    s.decodeNext = decode (s.mem.bytesFrom Config.chainWindow s.regs.pc) := by
  simp [State.decodeNext, State.upcoming, hmod, hdata]

/-- Settles O24: the bytes ahead begin with the encoding, which the decoder reads back; a step then runs what it decoded (O23). -/
theorem stepRunsInstructionInMemory : Obligations.StepRunsInstructionInMemory := by
  intro s i hmode hreset hflight hentry hmod hhalted hdata hwf hlen hbytes
  obtain ⟨rest, hrest⟩ := Memory.bytesFrom_eq_append hlen hbytes
  have hdec : s.decodeNext = .ok i rest := by rw [State.decodeNext_of_memory hmod hdata, hrest, decode_encode hwf]
  exact stepRunsDecodedInstruction.1 s i rest hmode hreset hflight hentry hhalted hdec

end Sys2Proof.Machine
end

section
/-! PROOFS. Where an instruction reaches memory and the ports (R81, R86, R192). -/

namespace Sys2Proof.Machine

/-! ### The addresses of bus cycles -/

/-- The address that a bus cycle stores to. -/
def BusEvent.storedAt : BusEvent → Option Word
  | .memWrite a _ => some a
  | _ => none

/-- The port that a bus cycle reaches, and whether it reads it. -/
def BusEvent.portReached : BusEvent → Option (Bool × Word)
  | .ioRead p _ => some (true, p)
  | .ioWrite p _ => some (false, p)
  | _ => none

theorem State.busCycle_read (s : State) (e : BusEvent) (a : Word) (h : e.storedAt ≠ some a) :
    (s.busCycle e).mem.read a.toNat = s.mem.read a.toNat := by
  cases e with
  | memWrite b v =>
    have other : a.toNat ≠ b.toNat := fun same => h (congrArg some (BitVec.eq_of_toNat_eq same.symm))
    exact Memory.read_write_other s.mem b.toNat a.toNat v other
  | _ => rfl

/-- Bus cycles leave memory alone but for the addresses that they store to. -/
theorem State.onBus_read {ev : List BusEvent} {a : Word} (h : a ∉ ev.filterMap BusEvent.storedAt) (s : State) :
    (s.onBus ev).mem.read a.toNat = s.mem.read a.toNat := by
  induction ev generalizing s with
  | nil => rfl
  | cons e ev ih =>
    simp only [List.mem_filterMap, List.mem_cons, exists_eq_or_imp, not_or] at h
    rw [State.onBus_cons, ih (by simpa using h.2), State.busCycle_read s e a h.1]

theorem map_filter_isIo {f : BusEvent → Bool × Word} (hin : ∀ p v, f (.ioRead p v) = (true, p)) (hout : ∀ p v, f (.ioWrite p v) = (false, p))
    (ev : List BusEvent) : (ev.filter BusEvent.isIo).map f = ev.filterMap BusEvent.portReached := by
  induction ev with
  | nil => rfl
  | cons e ev ih => cases e <;> simp [List.filter_cons, List.filterMap_cons, BusEvent.isIo, BusEvent.portReached, hin, hout, ih]

/-! ### Every meaning at once -/

/-- From `s` the meaning of `i` answers `o`, and its bus cycles store where `Instr.stores` says, and reach the ports that `Instr.portsOut` and
`Instr.portsIn` name. -/
def Reaches (i : Instr) (s : State) (o : Out) : Prop :=
  ∃ t ws, o = .next t ∧ t.events.filterMap BusEvent.storedAt = ws ++ s.events.filterMap BusEvent.storedAt ∧ ws ⊆ i.stores s.regs ∧
    t.events.filterMap BusEvent.portReached =
      (i.portsOut s.regs).map (false, ·) ++ (i.portsIn s.regs).map (true, ·) ++ s.events.filterMap BusEvent.portReached

section
variable {i : Instr} {s : State} {o : Out} {t : State}

/-- An instruction that stores in the order in which `Instr.stores` lists the addresses. -/
theorem Reaches.inOrder (ht : o = .next t)
    (stores : t.events.filterMap BusEvent.storedAt = (i.stores s.regs).reverse ++ s.events.filterMap BusEvent.storedAt)
    (ports : t.events.filterMap BusEvent.portReached =
      (i.portsOut s.regs).map (false, ·) ++ (i.portsIn s.regs).map (true, ·) ++ s.events.filterMap BusEvent.portReached) : Reaches i s o :=
  ⟨t, _, ht, stores, fun _ => List.mem_reverse.1, ports⟩

/-- EX (SP) stores the high byte first (R273). -/
theorem Reaches.highFirst (ht : o = .next t)
    (stores : t.events.filterMap BusEvent.storedAt = i.stores s.regs ++ s.events.filterMap BusEvent.storedAt)
    (ports : t.events.filterMap BusEvent.portReached =
      (i.portsOut s.regs).map (false, ·) ++ (i.portsIn s.regs).map (true, ·) ++ s.events.filterMap BusEvent.portReached) : Reaches i s o :=
  ⟨t, _, ht, stores, fun _ => id, ports⟩

end

theorem Instr.stores_callCc (cc : Cond) (nn : Word) (g : Regs) :
    (Instr.callCc cc nn).stores g = if condHolds cc g.f then [g.sp - 1, g.sp - 2] else [] := rfl

theorem exec_reaches (i : Instr) (s : State) : Reaches i s (exec i s) := by
  obtain ⟨⟨⟩⟩ := s
  induction i with
  | ignored x i ih => rw [exec_ignored]; exact ih
  | _ => ?_
  all_goals unfold exec
  case exSpHl | exSpXy => exact .highFirst rfl rfl rfl
  case djnz =>
    simp only [execDjnz]
    split <;> exact .inOrder rfl rfl rfl
  case jrCc =>
    simp only [execJrCc]
    split <;> exact .inOrder rfl rfl rfl
  case retCc =>
    simp only [execRetCc]
    split <;> exact .inOrder rfl rfl rfl
  case jpCc =>
    simp only [execJpCc]
    split <;> exact .inOrder rfl rfl rfl
  case callCc =>
    simp only [execCallCc]
    split
    · exact .inOrder rfl (by rw [Instr.stores_callCc, if_pos ‹_›]; rfl) rfl
    · exact .inOrder rfl (by rw [Instr.stores_callCc, if_neg ‹_›]; rfl) rfl
  case ldir | lddr =>
    simp only [execLdir, execLddr, State.blockLoad, State.readMem_eq]
    split <;> exact .inOrder rfl rfl rfl
  case cpir | cpdr =>
    simp only [execCpir, execCpdr, State.blockCompare, State.readMem_eq]
    split <;> exact .inOrder rfl rfl rfl
  case inir | otir | indr | otdr =>
    simp only [execInir, execOtir, execIndr, execOtdr, State.blockIn, State.blockOut, State.readPort_eq, State.readMem_eq]
    split <;> exact .inOrder rfl rfl rfl
  all_goals exact .inOrder rfl rfl rfl

/-- The bus cycles of an instruction: memory changes through them alone, and they go where its rule says. -/
theorem exec_reaches_inv {i : Instr} {s t : State} (h : exec i s = .next t) :
    ∃ ev : List BusEvent, t.events = ev.reverse ++ s.events ∧
      (∀ a : Word, a ∉ ev.filterMap BusEvent.storedAt → t.mem.read a.toNat = s.mem.read a.toNat) ∧
      ev.filterMap BusEvent.storedAt ⊆ i.stores s.regs ∧
      ev.reverse.filterMap BusEvent.portReached = (i.portsOut s.regs).map (false, ·) ++ (i.portsIn s.regs).map (true, ·) := by
  obtain ⟨s1, ev, r, hs1, hs, -⟩ := exec_next_inv h
  obtain ⟨u, ws, hu, stores, within, ports⟩ := exec_reaches i s
  obtain rfl : t = u := Host.Outcome.next.inj (h.symm.trans hu)
  have start : s1.mem = s.mem ∧ s1.events = s.events := by obtain rfl | rfl | ⟨-, rfl⟩ := hs <;> exact ⟨rfl, rfl⟩
  have recorded : t.events = ev.reverse ++ s.events := by rw [hs1, State.setRegs_events, State.onBus_frame, start.2]
  rw [recorded, List.filterMap_append] at stores ports
  refine ⟨ev, recorded, fun a ha => ?_, fun a ha => within ?_, List.append_cancel_right ports⟩
  · rw [hs1, ← start.1]
    exact State.onBus_read ha s1
  · rw [← List.append_cancel_right stores, List.filterMap_reverse]
    exact List.mem_reverse.2 ha

/-- Settles O29: memory changes through bus cycles alone, and an instruction's store where its rule says. -/
theorem memoryChangesOnlyWhereStored : Obligations.MemoryChangesOnlyWhereStored := by
  intro i s t a h ha
  obtain ⟨ev, -, kept, within, -⟩ := exec_reaches_inv h
  exact kept a fun stored => ha (within stored)

/-- Settles O30: the bus cycles of an instruction that reach a port are those that its rule names. -/
theorem portsReachedOnlyByIoInstructions : Obligations.PortsReachedOnlyByIoInstructions := by
  intro i s t h
  obtain ⟨ev, recorded, -, -, ports⟩ := exec_reaches_inv h
  refine ⟨ev.reverse, recorded, ?_⟩
  rw [map_filter_isIo (fun _ _ => rfl) (fun _ _ => rfl)]
  exact ports

end Sys2Proof.Machine
end

section
/-! PROOFS. The stack gives back what was put on it (R83, R391). -/

namespace Sys2Proof.Machine

/-! ### A word on the stack -/

theorem sub_two_add_one (sp : Word) : sp - 2 + 1 = sp - 1 := by bv_omega

/-- With nothing scripted on the data bus the two bytes of a word come from memory. -/
theorem State.word_of_memory {s : State} (h : s.dataIn = []) (a : Word) :
    s.word a = mk16 (s.mem.read (a + 1).toNat) (s.mem.read a.toNat) := by
  simp [State.word, State.afterRead_eq, State.busByte_mem, h]

/-- The word that a push has stored is at the new SP. -/
theorem State.word_push {s : State} (hm : s.mem.wf = true) (hd : s.dataIn = []) (v : Word) : (s.push v).word (s.regs.sp - 2) = v := by
  have first : (s.mem.write (s.regs.sp - 1).toNat (hi8 v)).wf = true := Memory.write_wf _ _ _ hm
  rw [State.word_of_memory (by exact hd), sub_two_add_one, State.push_mem, Memory.read_write_same _ _ _ first,
    Memory.read_write_other _ _ _ _ (sub_one_ne_sub_two _), Memory.read_write_same _ _ _ hm, mk16_hi8_lo8]

/-- A pop reads a word at SP. -/
theorem State.pop_eq_word {α : Type} (s : State) (k : Word → State → α) :
    s.pop k = k (s.word s.regs.sp) (((s.afterRead s.regs.sp).afterRead (s.regs.sp + 1)).setRegs { s.regs with sp := s.regs.sp + 2 }) :=
  s.pop_eq k

/-- A pop from a stack on which `v` has been pushed, whatever other registers have been written since, gives `v`, and SP is where it was (R83). -/
theorem State.pop_push {α : Type} {s : State} (hm : s.mem.wf = true) (hd : s.dataIn = []) (v : Word) {r : Regs} (hsp : r.sp = s.regs.sp - 2)
    (k : Word → State → α) :
    ∃ u : State, u.regs = { r with sp := s.regs.sp } ∧ ((s.push v).setRegs r).pop k = k v u := by
  have same : ((s.push v).setRegs r).word r.sp = v := by
    rw [hsp]
    exact State.word_push hm hd v
  have back : r.sp + 2 = s.regs.sp := by rw [hsp]; bv_omega
  refine ⟨_, ?_, (State.pop_eq_word _ _).trans (congrArg (fun w => k w _) same)⟩
  rw [← back]
  rfl

theorem Regs.plain_setRp2_getRp2 (g : Regs) (p : RP2) (q : Byte) : (Regs.setRp2 { g with q := q } p (g.getRp2 p)).plain = g.plain := by
  cases p <;> simp [Regs.plain, Regs.setRp2, Regs.getRp2, Regs.setBc, Regs.setDe, Regs.setHl, Regs.setAf, Regs.bc, Regs.de, Regs.hl, Regs.af]

theorem Regs.plain_setXy_getXy (g : Regs) (x : XY) (q : Byte) : (Regs.setXy { g with q := q } x (g.getXy x)).plain = g.plain := by
  cases x <;> rfl

/-- `s` as the fetch of an NMI entry leaves it: PC's move is taken back, and IFF1 is 0 (R379). -/
def State.nmiFetched (s : State) : State := s.ocf.setRegs { s.ocf.regs with pc := s.ocf.regs.pc - 1, iff1 := false }

/-- An NMI entry pushes PC and then goes on to its handler. -/
theorem State.nmiEntry_eq_push (s : State) : s.nmiEntry =
    ((s.nmiFetched.fill 1).push s.nmiFetched.regs.pc).setRegs (s.nmiFetched.pushReturn.enterHandler nmiVector).regs := rfl

theorem State.nmiFetched_pc {s : State} (h : s.regs.halted = false) : s.nmiFetched.regs.pc = s.regs.pc := by
  simp [State.nmiFetched, Regs.fetched, h]

theorem exec_popRr (p : RP2) (s : State) : exec (.popRr p) s = s.pop fun v t => (t.setRegs (t.regs.setRp2 p v)).done := rfl
theorem exec_popXy (x : XY) (s : State) : exec (.popXy x) s = s.pop fun v t => (t.setRegs (t.regs.setXy x v)).done := rfl
theorem exec_ret (s : State) : exec .ret s = s.pop fun v t => (t.jump v).done := rfl
theorem exec_retn (y : BitVec 3) (s : State) :
    exec (.retn y) s = (s.pop fun v t => t.setRegs { t.regs with pc := v, wz := v, iff1 := t.regs.iff2 }).done := rfl

section
variable {s : State} (hm : s.mem.wf = true) (hd : s.dataIn = [])
include hm hd

theorem exec_popRr_pushRr (p : RP2) : ∃ t u, exec (.pushRr p) s = .next t ∧ exec (.popRr p) t = .next u ∧ u.regs = s.regs.plain := by
  obtain ⟨u, hu, popped⟩ := State.pop_push (s := s.fill 1) hm hd (s.regs.getRp2 p) (r := { s.regs with sp := s.regs.sp - 2, q := 0 }) rfl
    fun v t => (t.setRegs (t.regs.setRp2 p v)).done
  refine ⟨_, _, rfl, (exec_popRr p _).trans popped, ?_⟩
  rw [State.setRegs_regs, State.setRegs_regs, hu]
  exact Regs.plain_setRp2_getRp2 s.regs p 0

theorem exec_popXy_pushXy (x : XY) : ∃ t u, exec (.pushXy x) s = .next t ∧ exec (.popXy x) t = .next u ∧ u.regs = s.regs.plain := by
  obtain ⟨u, hu, popped⟩ := State.pop_push (s := s.fill 1) hm hd (s.regs.getXy x) (r := { s.regs with sp := s.regs.sp - 2, q := 0 }) rfl
    fun v t => (t.setRegs (t.regs.setXy x v)).done
  refine ⟨_, _, rfl, (exec_popXy x _).trans popped, ?_⟩
  rw [State.setRegs_regs, State.setRegs_regs, hu]
  exact Regs.plain_setXy_getXy s.regs x 0

theorem exec_ret_call (nn : Word) :
    ∃ t u, exec (.call nn) s = .next t ∧ t.regs.pc = nn ∧ exec .ret t = .next u ∧ u.regs = { s.regs.plain with wz := s.regs.pc } := by
  obtain ⟨u, hu, popped⟩ := State.pop_push (s := s.fill 1) hm hd s.regs.pc
    (r := { s.regs with sp := s.regs.sp - 2, pc := nn, wz := nn, q := 0 }) rfl fun v t => (t.jump v).done
  refine ⟨_, _, rfl, rfl, (exec_ret _).trans popped, ?_⟩
  rw [State.setRegs_regs, State.jump_regs, hu]
  rfl

theorem exec_retn_nmiEntry (y : BitVec 3) (awake : s.regs.halted = false) :
    ∃ u, exec (.retn y) s.nmiEntry = .next u ∧ u.regs.pc = s.regs.pc ∧ u.regs.sp = s.regs.sp ∧ u.regs.iff1 = s.regs.iff2 ∧
      u.regs.iff2 = s.regs.iff2 := by
  have unscripted : s.nmiFetched.dataIn = [] := congrArg List.tail hd
  obtain ⟨u, hu, popped⟩ := State.pop_push (s := s.nmiFetched.fill 1) hm unscripted s.nmiFetched.regs.pc
    (r := (s.nmiFetched.pushReturn.enterHandler nmiVector).regs) rfl
    fun v t => t.setRegs { t.regs with pc := v, wz := v, iff1 := t.regs.iff2 }
  rw [State.nmiEntry_eq_push, exec_retn, popped]
  refine ⟨_, rfl, State.nmiFetched_pc awake, ?_⟩
  simp [hu, State.nmiFetched, Regs.fetched]

end

/-- Settles O36: each return pops the word that was pushed last, and SP is where it was. -/
theorem stackRoundTrips : Obligations.StackRoundTrips := fun _ p x nn y hm hd =>
  ⟨exec_popRr_pushRr hm hd p, exec_popXy_pushXy hm hd x, exec_ret_call hm hd nn, exec_retn_nmiEntry hm hd y⟩

end Sys2Proof.Machine
end

section
/-! PROOFS. What a call of `clock` takes from the host, and what it does on either edge (R90 to R92). -/

namespace Sys2Proof.Machine

/-! ### The pin merge -/

/-- Each pin after a merge: an output as it was, an input at the host's level (R91). -/
theorem PinBus.merge_get (p : PinBus) (inp : PinVec) (n : PinName) :
    (p.merge inp).level.get n = if p.dir.get n then p.level.get n else inp.get n := by
  cases n with
  | a n => cases h : p.dir.addr[n] <;> simp_all [PinBus.merge, PinVec.get]
  | d n => cases h : p.dir.data[n] <;> simp_all [PinBus.merge, PinVec.get]
  | _ => rfl

theorem PinVec.ext_get {v w : PinVec} (h : ∀ n, v.get n = w.get n) : v = w := by
  rw [← PinVec.ofLevels_get v, ← PinVec.ofLevels_get w, funext h]

/-- A merge reads its input at the undriven pins alone. -/
theorem PinBus.merge_congr {p : PinBus} {inp inp2 : PinVec} (h : ∀ n, p.dir.get n = false → inp.get n = inp2.get n) :
    p.merge inp = p.merge inp2 := by
  have level : (p.merge inp).level = (p.merge inp2).level := by
    apply PinVec.ext_get
    intro n
    rw [PinBus.merge_get, PinBus.merge_get]
    cases driven : p.dir.get n
    · exact h n driven
    · rfl
  exact congrArg (PinBus.mk · p.dir) level

/-! ### The state that a call of `clock` goes on from -/

/-- The phase has changed, and the host's levels are on the input pins (R90, R91). -/
def State.edge (s : State) (inp : PinVec) : State := { s with clk := !s.clk, pins := s.pins.merge inp }

theorem State.edge_reset {s : State} (h : s.pins.dir.reset = false) (inp : PinVec) : (s.edge inp).pins.level.reset = inp.reset :=
  PinBus.merge_level_reset h inp

section
variable {s : State} {inp : PinVec}

/-- RESET comes first (R116). -/
theorem State.clock_of_low (h : (s.edge inp).pins.level.reset = false) : s.clock inp = .next (s.edge inp).enterReset :=
  if_pos (congrArg (!·) h)

/-- A call is a function of that state. -/
theorem State.clock_congr {inp2 : PinVec} (h : s.edge inp = s.edge inp2) : s.clock inp = s.clock inp2 := by
  have edge (v : PinVec) : ({ s with clk := !s.clk } : State).mapPins (·.merge v) = s.edge v := rfl
  rw [State.clock, State.clock, edge, edge, h]

theorem State.clock_of_running (h : (s.edge inp).pins.level.reset = true) (hmode : s.mode = .running) : s.clock inp = (s.edge inp).advance := by
  have edge : ({ s with clk := !s.clk } : State).mapPins (·.merge inp) = s.edge inp := rfl
  have running : (s.edge inp).mode = .running := hmode
  rw [State.clock, edge]
  simp [h, running]

/-- Outside of a running core, a falling edge does no more, and a rising one leaves Reset (R117). -/
theorem State.clock_of_stopped (h : (s.edge inp).pins.level.reset = true) (hmode : s.mode ≠ .running) :
    s.clock inp = if s.clk then .next (s.edge inp) else (s.edge inp).leaveReset.advance := by
  have edge : ({ s with clk := !s.clk } : State).mapPins (·.merge inp) = s.edge inp := rfl
  have phase : (s.edge inp).clk = !s.clk := rfl
  rw [State.clock, edge]
  cases hm : s.mode with
  | running => exact absurd hm hmode
  | reset | idleToFetch =>
    have stopped : (s.edge inp).mode = s.mode := rfl
    cases hclk : s.clk <;> simp [h, stopped, hm, phase, hclk]

end

/-! ### The clock phase and the INT latch -/

/-- `t` has the clock phase and the INT latch of `s`. -/
def SameSample (s t : State) : Prop := t.clk = s.clk ∧ t.intLatch = s.intLatch

theorem SameSample.trans {s t u : State} (h1 : SameSample s t) (h2 : SameSample t u) : SameSample s u :=
  ⟨h2.1.trans h1.1, h2.2.trans h1.2⟩

theorem State.retire_sameSample (s : State) : SameSample s s.retire := by
  rw [State.retire_frame]
  exact ⟨rfl, rfl⟩

theorem State.fetchAll_sameSample (s : State) (cs : List FetchCycle) : SameSample s (s.fetchAll cs) := by
  induction cs generalizing s with
  | nil => exact ⟨rfl, rfl⟩
  | cons c cs ih =>
    have first : SameSample s (s.fetchCycle c) := by cases c <;> exact ⟨rfl, rfl⟩
    exact first.trans (ih _)

theorem exec_sameSample {i : Instr} {s t : State} (h : exec i s = .next t) : SameSample s t := by
  obtain ⟨-, clk, -, -, -, -, latch, -⟩ := controlStateUntouched i s t h
  exact ⟨clk, latch⟩

theorem State.intEntry_sameSample {s t : State} (h : s.intEntry = .next t) : SameSample s t := by
  unfold State.intEntry State.inta at h
  dsimp only at h
  split at h
  · split at h
    · cases h
      exact ⟨rfl, rfl⟩
    · cases h
  · cases h
    exact ⟨rfl, rfl⟩
  · cases h
    exact ⟨rfl, rfl⟩

/-- A transaction reads the INT latch, and leaves the sampling to the edges (R92). -/
theorem State.transact_sameSample {s t : State} (h : s.transact = .next t) : SameSample s t := by
  unfold State.transact at h
  split at h
  · cases h
    have entered : SameSample s s.nmiEntry := by simp [SameSample, State.nmiEntry]
    exact entered.trans (State.retire_sameSample _)
  · obtain ⟨u, hu, hr⟩ := (andThen_next_iff _ _ _).1 h
    cases hr
    exact (State.intEntry_sameSample hu).trans u.retire_sameSample
  · split at h
    · cases h
      have fetched : SameSample s s.haltedNop := by simp [SameSample, State.haltedNop, State.fetchOpcode]
      exact fetched.trans (State.retire_sameSample _)
    · unfold State.instruction at h
      split at h
      · obtain ⟨u, hu, hr⟩ := (andThen_next_iff _ _ _).1 h
        cases hr
        exact ((State.fetchAll_sameSample s _).trans (exec_sameSample hu)).trans u.retire_sameSample
      · cases h
        exact ⟨rfl, rfl⟩

theorem State.decoderStep_sameSample {s t : State} {c : Cycle} (h : s.decoderStep c = .next t) : SameSample s t := by
  unfold State.decoderStep at h
  split at h
  · cases h
  · obtain ⟨u, hu, hnext⟩ := (andThen_next_iff _ _ _).1 h
    split at hnext
    · cases hnext
      exact ⟨rfl, rfl⟩
    · split at hnext
      · cases hnext
        have done := State.transact_sameSample hu
        exact ⟨done.1, done.2⟩
      · cases hnext

/-- The pin actions of a half-edge keep the phase and the latch. -/
def Advance.SameSample (s : State) : Advance → Prop
  | .going t => Machine.SameSample s t
  | .finished t _ => Machine.SameSample s t
  | .violation => True

theorem State.act_sameSample (s : State) (c : Cycle) (h : Nat) : SameSample s (s.act c h).1 := by
  rw [State.act_frame]
  exact ⟨rfl, rfl⟩

theorem State.rise_sameSample (s : State) (c : Cycle) : (s.rise c).SameSample s := by
  unfold State.rise
  split
  · dsimp only
    split
    · trivial
    · exact s.act_sameSample _ _
  · exact ⟨rfl, rfl⟩
  · split <;> exact ⟨rfl, rfl⟩
  · trivial

theorem State.fall_sameSample (s : State) (c : Cycle) : (s.fall c).SameSample s := by
  unfold State.fall
  split
  · split
    · exact ⟨rfl, rfl⟩
    · dsimp only
      split
      · trivial
      · split
        · exact s.act_sameSample _ _
        · split
          · split <;> exact s.act_sameSample _ _
          · exact s.act_sameSample _ _
  · exact ⟨rfl, rfl⟩
  · exact ⟨rfl, rfl⟩
  · exact ⟨rfl, rfl⟩

/-- A rising edge starts or goes on with a cycle, and ends none (R104). -/
theorem State.rise_ne_finished (s t : State) (c d : Cycle) : s.rise c ≠ .finished t d := by
  unfold State.rise
  split
  · dsimp only
    split <;> nofun
  · nofun
  · split <;> nofun
  · nofun

theorem State.openFlight_frame (s : State) : s.openFlight = { s with flight := s.openFlight.flight } := by
  unfold State.openFlight
  split <;> rfl

/-- A half-edge of a running core keeps the phase; a rising one samples INT (R92). -/
theorem State.advance_samples {s t : State} (h : s.advance = .next t) :
    t.clk = s.clk ∧ t.intLatch = if s.clk then s.pins.level.int else s.intLatch := by
  unfold State.advance at h
  split at h
  · cases h
  · rename_i c _
    cases hclk : s.clk
    · simp only [hclk, Bool.false_eq_true, if_false] at h ⊢
      have kept := s.fall_sameSample c
      split at h <;> rename_i outcome <;> rw [outcome] at kept
      · cases h
        exact ⟨kept.1.trans hclk, kept.2⟩
      · have stepped := kept.trans (State.decoderStep_sameSample h)
        exact ⟨stepped.1.trans hclk, stepped.2⟩
      · cases h
    · simp only [hclk, if_true] at h ⊢
      have kept := ({ s.openFlight with intLatch := s.pins.level.int } : State).rise_sameSample c
      split at h <;> rename_i outcome <;> rw [outcome] at kept
      · cases h
        exact ⟨kept.1.trans ((congrArg State.clk s.openFlight_frame).trans hclk), kept.2⟩
      · exact absurd outcome (State.rise_ne_finished _ _ _ _)
      · cases h

/-- A call toggles the phase (R90). -/
theorem State.clock_clk {s t : State} {inp : PinVec} (h : s.clock inp = .next t) : t.clk = !s.clk := by
  cases low : (s.edge inp).pins.level.reset
  · rw [State.clock_of_low low] at h
    cases h
    rw [State.enterReset_frame]
    rfl
  · by_cases hmode : s.mode = .running
    · rw [State.clock_of_running low hmode] at h
      exact (State.advance_samples h).1
    · rw [State.clock_of_stopped low hmode] at h
      split at h
      · cases h
        rfl
      · exact (State.advance_samples h).1

/-- Settles O55: the host's levels reach a call through the merge alone, and the INT latch changes with the sample of a rising edge. -/
theorem clockReadsItsInputs : Obligations.ClockReadsItsInputs := by
  refine ⟨PinBus.merge_get, fun s inp inp2 h => ?_, fun s inp hmode hclk hdir hinp => ?_,
    fun s t inp h => ⟨State.clock_clk h, fun inv hmode hinp => ?_⟩⟩
  · exact State.clock_congr (congrArg (fun p => { s with clk := !s.clk, pins := p }) (PinBus.merge_congr h))
  · have high := (State.edge_reset hdir inp).trans hinp
    refine ⟨s.edge inp, ?_, rfl, PinBus.merge_get s.pins inp⟩
    rw [State.clock_of_stopped high (by simp [hmode]), if_pos hclk]
  · obtain ⟨int, -, -, -, reset⟩ := inv.inputs
    have high := (State.edge_reset reset inp).trans hinp
    have sample : (s.edge inp).pins.level.int = inp.int := PinBus.merge_level_int int inp
    rw [State.clock_of_running high hmode] at h
    rw [(State.advance_samples h).2, sample]
    cases hclk : s.clk <;> simp [State.edge, hclk]

/-- Settles O46: RESET low is `enterReset`, whatever the core was doing. -/
theorem enterReset : Obligations.EnterReset := by
  refine ⟨rfl, fun s inp hdir hinp => ⟨_, State.clock_of_low ((State.edge_reset hdir inp).trans hinp), ?_⟩⟩
  rw [State.enterReset_frame]
  and_intros <;> rfl

end Sys2Proof.Machine
end

section
/-! PROOFS. A halted core: the fetch that it repeats, and what wakes it (R97, R241, R378, R399). -/

namespace Sys2Proof.Machine

/-! ### Retirement, by what arbitration finds (R374) -/

section
variable {s : State}

theorem State.retire_of_nmi (hn : s.acceptsNmi = true) : s.retire.regs = { s.regs with halted := false } ∧ s.retire.dec.entry = .nmi := by
  have accepts : ({ s with dec := .reset } : State).acceptsNmi = true := hn
  simp [State.retire, State.arbitrate, accepts]

theorem State.retire_of_int (hn : s.acceptsNmi = false) (hi : s.acceptsInt = true) :
    s.retire.regs = { s.regs with halted := false, iff1 := false, iff2 := false } ∧ s.retire.dec.entry = .int := by
  have noNmi : ({ s with dec := .reset } : State).acceptsNmi = false := hn
  have accepts : ({ s with dec := .reset } : State).acceptsInt = true := hi
  simp [State.retire, State.arbitrate, noNmi, accepts]

theorem State.retire_of_none (hn : s.acceptsNmi = false) (hi : s.acceptsInt = false) :
    s.retire.regs = s.regs ∧ s.retire.dec.entry = .none := by
  have noNmi : ({ s with dec := .reset } : State).acceptsNmi = false := hn
  have noInt : ({ s with dec := .reset } : State).acceptsInt = false := hi
  simp [State.retire, State.arbitrate, noNmi, noInt]

theorem State.retire_events : s.retire.events = s.events := by rw [State.retire_frame]
theorem State.retire_mem : s.retire.mem = s.mem := by rw [State.retire_frame]

/-! ### The halted fetch -/

/-- A halted fetch counts R, and reads as NOP at the same PC (R97). -/
theorem State.haltedNop_regs (h : s.regs.halted = true) : s.haltedNop.regs = { s.regs with instr := 0, r := refreshInc s.regs.r, q := 0 } := by
  simp [State.haltedNop, State.fetchOpcode, Regs.fetched, h]

theorem State.transact_of_halted (hentry : s.dec.entry = .none) (h : s.regs.halted = true) : s.transact = .next s.haltedNop.retire := by
  simp [State.transact, hentry, h]

end

/-- `s` as the halted fetch of a step leaves it, before retirement. -/
def State.afterHaltedFetch (s : State) : State := ({ s with events := [] } : State).sampleInt.openPins.haltedNop

theorem State.afterHaltedFetch_acceptsNmi {s : State} (h : Inv s) : s.afterHaltedFetch.acceptsNmi = s.nmiPending := by
  have skip : s.afterHaltedFetch.skipNmi = false := h.skips.2
  rw [State.acceptsNmi, skip]
  exact Bool.and_true _

theorem State.afterHaltedFetch_acceptsInt {s : State} (h : Inv s) : s.afterHaltedFetch.acceptsInt = (!s.pins.level.int && s.regs.iff1) := by
  have skip : s.afterHaltedFetch.skipInt = false := h.skips.1
  rw [State.acceptsInt, skip]
  exact Bool.and_true _

/-- Settles O52: the step is a halted fetch and its retirement, where an accepted interrupt alone clears `halted`. -/
theorem haltedCoreOnlyFetches : Obligations.HaltedCoreOnlyFetches := by
  intro s inv hmode hreset hflight hentry hhalted
  have hstep : step s = .next s.afterHaltedFetch.retire :=
    (step_of_running hmode hreset hflight).trans (State.transact_of_halted hentry hhalted)
  have regs : s.afterHaltedFetch.regs = { s.regs with instr := 0, r := refreshInc s.regs.r, q := 0 } := State.haltedNop_regs hhalted
  have nmi := State.afterHaltedFetch_acceptsNmi inv
  have int := State.afterHaltedFetch_acceptsInt inv
  refine ⟨_, hstep, ?_, ?_, State.retire_mem, ?_⟩
  · rw [State.retire_events]
    rfl
  · rw [State.tStates_eq, State.retire_events]
    rfl
  · cases hn : s.nmiPending
    · cases hi : !s.pins.level.int && s.regs.iff1
      · obtain ⟨r, e⟩ := State.retire_of_none (nmi.trans hn) (int.trans hi)
        simp_all
      · obtain ⟨r, e⟩ := State.retire_of_int (nmi.trans hn) (int.trans hi)
        simp_all
    · obtain ⟨r, e⟩ := State.retire_of_nmi (nmi.trans hn)
      simp_all

end Sys2Proof.Machine
end

section
/-! PROOFS. The bus cycles, half-edge by half-edge: their lengths and wave forms (R93 to R105). -/

namespace Sys2Proof.Machine

/-! ### The pin actions of a half-edge -/

/-- Of its cycle a half-edge changes the address and the captured byte alone; WAIT and BUSREQ are the host's. -/
theorem State.act_keeps (s : State) (c : Cycle) (h : Nat) :
    (∃ a g, (s.act c h).2 = { c with addr := a, got := g }) ∧
      (s.act c h).1.pins.level.wait = s.pins.level.wait ∧ (s.act c h).1.pins.level.busreq = s.pins.level.busreq := by
  unfold State.act
  split
  · simp only [State.actFetch]; split <;> exact ⟨⟨_, _, rfl⟩, rfl, rfl⟩
  · simp only [State.actMemRead]; split <;> exact ⟨⟨_, _, rfl⟩, rfl, rfl⟩
  · simp only [State.actMemWrite]; split <;> exact ⟨⟨_, _, rfl⟩, rfl, rfl⟩
  · simp only [State.actIoRead]; split <;> exact ⟨⟨_, _, rfl⟩, rfl, rfl⟩
  · simp only [State.actIoWrite]; split <;> exact ⟨⟨_, _, rfl⟩, rfl, rfl⟩
  · simp only [State.actIntAck]; split <;> exact ⟨⟨_, _, rfl⟩, rfl, rfl⟩
  · exact ⟨⟨_, _, rfl⟩, rfl, rfl⟩

/-- A filler changes nothing (R103). -/
theorem State.act_filler (s : State) {c : Cycle} (h : Nat) (hk : c.kind = .filler) : s.act c h = (s, c) := by
  simp [State.act, hk]

/-- What the pin actions depend on is the same of the cycle `c` on `s` and of `d` on `u`. -/
structure Alike (s : State) (c : Cycle) (u : State) (d : Cycle) : Prop where
  regs : u.regs = s.regs
  pins : u.pins = s.pins
  kind : d.kind = c.kind
  addr : d.addr = c.addr
  out : d.out = c.out

theorem Alike.trans {s u v : State} {c d e : Cycle} (h1 : Alike s c u d) (h2 : Alike u d v e) : Alike s c v e :=
  ⟨h2.regs.trans h1.regs, h2.pins.trans h1.pins, h2.kind.trans h1.kind, h2.addr.trans h1.addr, h2.out.trans h1.out⟩

theorem Alike.act {s u : State} {c d : Cycle} (h : Alike s c u d) (n : Nat) : Alike (s.act c n).1 (s.act c n).2 (u.act d n).1 (u.act d n).2 := by
  obtain ⟨regs, pins, kind, addr, out⟩ := h
  cases s; cases u; cases c; cases d
  cases regs; cases pins; cases kind; cases addr; cases out
  unfold State.act
  dsimp only
  split
  · unfold State.actFetch; split <;> exact ⟨rfl, rfl, rfl, rfl, rfl⟩
  · unfold State.actMemRead; split <;> exact ⟨rfl, rfl, rfl, rfl, rfl⟩
  · unfold State.actMemWrite; split <;> exact ⟨rfl, rfl, rfl, rfl, rfl⟩
  · unfold State.actIoRead; split <;> exact ⟨rfl, rfl, rfl, rfl, rfl⟩
  · unfold State.actIoWrite; split <;> exact ⟨rfl, rfl, rfl, rfl, rfl⟩
  · unfold State.actIntAck; split <;> exact ⟨rfl, rfl, rfl, rfl, rfl⟩
  · exact ⟨rfl, rfl, rfl, rfl, rfl⟩

/-- The pins after each of the half-edges `h`, `h + 1`, … of the cycle `c`, `n` in all, where each runs its pin actions and nothing else. -/
def actedPins : Nat → Nat → State → Cycle → List PinBus
  | 0, _, _, _ => []
  | n + 1, h, s, c => (s.act c h).1.pins :: actedPins n (h + 1) (s.act c h).1 (s.act c h).2

theorem Alike.actedPins_eq {s u : State} {c d : Cycle} (h : Alike s c u d) (n k : Nat) : actedPins n k u d = actedPins n k s c := by
  induction n generalizing s u c d k with
  | zero => rfl
  | succ n ih =>
    have acted := h.act k
    exact congrArg₂ List.cons acted.pins (ih acted (k + 1))

/-! ### A half-edge that the cycle counts (R93) -/

/-- The cycle in the T-state `t`. -/
def Cycle.inState (c : Cycle) (t : Int) : Cycle := { c with t := t }

section
variable {s : State} {c : Cycle} {k : Nat}

/-- What a rising edge makes of the state `u` and the cycle `d` that its pin actions leave in T-state `k`: the last T-state samples BUSREQ (R95). -/
def beginTState (k : Nat) (u : State) (d : Cycle) : Advance :=
  .going { u with cycle := some (if d.kind.drivesBus && k + 1 == d.nominal then { d with releaseStaged := !u.pins.level.busreq } else d) }

/-- What a falling edge makes of the state `u` and the cycle `d` that its pin actions leave in T-state `k`: WAIT sets `t` back (R94); the last T-state
ends the cycle, or puts its end off where a release is staged (R104, R110). -/
def endTState (k : Nat) (u : State) (d : Cycle) : Advance :=
  if d.kind.waitHalf == some (2 * k + 1) && !u.pins.level.wait then .going { u with cycle := some { d with t := d.t - 1 } }
  else if k + 1 == d.nominal then
    if d.releaseStaged then .going { u with cycle := some { d with release := .pending } } else .finished u d
  else .going { u with cycle := some d }

theorem State.rise_counts (hr : c.release = .none) (ht : c.t + 1 = k) (hk : k < c.nominal) :
    s.rise c = beginTState k (s.act (c.inState k) (2 * k)).1 (s.act (c.inState k) (2 * k)).2 := by
  have counted : s.rise c = if (c.t + 1).toNat ≥ c.nominal then .violation else
      beginTState (c.t + 1).toNat (s.act (c.inState (c.t + 1)) (2 * (c.t + 1).toNat)).1
        (s.act (c.inState (c.t + 1)) (2 * (c.t + 1).toNat)).2 := by
    cases c
    cases hr
    rfl
  rw [counted, ht, Int.toNat_natCast, if_neg (Nat.not_le.2 hk)]

theorem State.fall_counts (hr : c.release = .none) (ht : c.t = k) (hk : k < c.nominal) :
    s.fall c = endTState k (s.act c (2 * k + 1)).1 (s.act c (2 * k + 1)).2 := by
  have counted : s.fall c = if c.t < 0 then .going s else if c.t.toNat ≥ c.nominal then .violation else
      endTState c.t.toNat (s.act c (2 * c.t.toNat + 1)).1 (s.act c (2 * c.t.toNat + 1)).2 := by
    cases c
    cases hr
    rfl
  rw [counted, ht, Int.toNat_natCast, if_neg (Nat.not_le.2 hk), if_neg (by omega)]

end

/-! ### A cycle that nothing holds up (R104, R105) -/

/-- No release of the bus is under way or staged, and WAIT and BUSREQ, which a filler does not sample, are inactive. -/
structure Cycle.Steady (c : Cycle) (s : State) : Prop where
  release : c.release = .none
  staged : c.releaseStaged = false
  inputs : c.kind = .filler ∨ s.pins.level.wait = true ∧ s.pins.level.busreq = true

/-- The pin actions of half-edge `h` have brought the cycle `c` on `s` to T-state `k`, where it is `d` on `u`. -/
structure Cycle.Advances (c : Cycle) (s : State) (k h : Nat) (d : Cycle) (u : State) : Prop where
  steady : d.Steady u
  count : d.t = k
  nominal : d.nominal = c.nominal
  acted : Alike (s.act c h).1 (s.act c h).2 u d

section
variable {s : State} {c : Cycle} {k : Nat} (h : c.Steady s)
include h

theorem Cycle.Steady.act (n : Nat) : c.Advances s k n (s.act (c.inState k) n).2 (s.act (c.inState k) n).1 := by
  have counted : Alike s c s (c.inState k) := ⟨rfl, rfl, rfl, rfl, rfl⟩
  have acted := counted.act n
  obtain ⟨⟨a, g, hc⟩, wait, busreq⟩ := s.act_keeps (c.inState k) n
  have inputs := h.inputs
  rw [← wait, ← busreq] at inputs
  rw [hc] at acted ⊢
  exact ⟨⟨h.release, h.staged, inputs⟩, rfl, rfl, acted⟩

theorem Cycle.Steady.rise (ht : c.t + 1 = k) (hk : k < c.nominal) :
    ∃ u d, s.rise c = .going u ∧ u.cycle = some d ∧ c.Advances s k (2 * k) d u := by
  obtain ⟨⟨release, staged, inputs⟩, count, nominal, ⟨regs, pins, kind, addr, out⟩⟩ := h.act (k := k) (2 * k)
  rw [State.rise_counts h.release ht hk, beginTState]
  refine ⟨_, _, rfl, rfl, ?_⟩
  split
  · rename_i last
    have unstaged : (!(s.act (c.inState k) (2 * k)).1.pins.level.busreq) = false := by
      obtain filler | ⟨-, busreq⟩ := inputs
      · simp [filler, CycleKind.drivesBus] at last
      · simp [busreq]
    exact ⟨⟨release, unstaged, inputs⟩, count, nominal, ⟨regs, pins, kind, addr, out⟩⟩
  · exact ⟨⟨release, staged, inputs⟩, count, nominal, ⟨regs, pins, kind, addr, out⟩⟩

theorem Cycle.Steady.no_wait {n : Nat} : ¬ (c.kind.waitHalf == some n && !s.pins.level.wait) = true := by
  obtain filler | ⟨wait, -⟩ := h.inputs
  · simp [filler, CycleKind.waitHalf]
  · simp [wait]

theorem Cycle.Steady.act_fall (ht : c.t = k) : c.Advances s k (2 * k + 1) (s.act c (2 * k + 1)).2 (s.act c (2 * k + 1)).1 := by
  have acted := h.act (k := k) (2 * k + 1)
  have counted : c.inState k = c := by rw [← ht]; rfl
  rwa [counted] at acted

theorem Cycle.Steady.fall (ht : c.t = k) (hk : k + 1 < c.nominal) :
    ∃ u d, s.fall c = .going u ∧ u.cycle = some d ∧ c.Advances s k (2 * k + 1) d u := by
  obtain ⟨steady, count, nominal, ⟨regs, pins, kind, addr, out⟩⟩ := h.act_fall ht
  have notLast : ¬ (k + 1 == (s.act c (2 * k + 1)).2.nominal) = true := by simp [nominal]; omega
  rw [State.fall_counts h.release ht (by omega), endTState, if_neg steady.no_wait, if_neg notLast]
  exact ⟨_, _, rfl, rfl, ⟨steady.release, steady.staged, steady.inputs⟩, count, nominal, ⟨regs, pins, kind, addr, out⟩⟩

theorem Cycle.Steady.fall_last (ht : c.t = k) (hk : k + 1 = c.nominal) :
    ∃ u d, s.fall c = .finished u d ∧ c.Advances s k (2 * k + 1) d u := by
  have advanced := h.act_fall ht
  rw [State.fall_counts h.release ht (by omega), endTState, if_neg advanced.steady.no_wait, if_pos (by simp [advanced.nominal, hk]),
    if_neg (by simp [advanced.steady.staged])]
  exact ⟨_, _, rfl, advanced⟩

end

/-- With nothing to hold it up a cycle runs its pin actions, half-edge by half-edge, and ends after the T-states that are left of it. -/
theorem run_of_steady {c : Cycle} {s : State} {k m : Nat} (h : c.Steady s) (ht : c.t + 1 = k) (hk : k + (m + 1) = c.nominal) :
    ∃ u, edges true (2 * (m + 1)) s c = some (2 * (m + 1), u) ∧ waves true (2 * (m + 1)) s c = actedPins (2 * (m + 1)) (2 * k) s c ∧
      (c.kind = .filler → u.pins = s.pins) := by
  induction m generalizing s c k with
  | zero =>
    obtain ⟨u, d, hu, hd, up⟩ := h.rise ht (by omega)
    obtain ⟨v, e, hv, down⟩ := up.steady.fall_last up.count (by rw [up.nominal, ← hk])
    have both := (up.acted.act (2 * k + 1)).trans down.acted
    refine ⟨v, by simp [edges, hu, hd, hv], by simp [waves, actedPins, hu, hd, hv, up.acted.pins, both.pins], fun filler => ?_⟩
    rw [both.pins, State.act_filler s (2 * k) filler, State.act_filler s (2 * k + 1) filler]
  | succ m ih =>
    obtain ⟨u, d, hu, hd, up⟩ := h.rise ht (by omega)
    obtain ⟨v, e, hv, he, down⟩ := up.steady.fall up.count (by rw [up.nominal]; omega)
    have both := (up.acted.act (2 * k + 1)).trans down.acted
    obtain ⟨w, rest, shown, quiet⟩ := ih (k := k + 1) down.steady (by rw [down.count]; rfl) (by rw [down.nominal, up.nominal]; omega)
    refine ⟨w, ?_, ?_, fun filler => ?_⟩
    · rw [Nat.mul_succ]
      simp [edges, hu, hd, hv, he, rest]
    · have ahead : waves true (2 * (m + 1)) v e = actedPins (2 * (m + 1)) (2 * k + 1 + 1) _ _ := shown.trans (both.actedPins_eq _ _)
      rw [Nat.mul_succ]
      simp [waves, actedPins, hu, hd, hv, he, up.acted.pins, both.pins, ahead]
    · rw [State.act_filler s (2 * k) filler, State.act_filler s (2 * k + 1) filler] at both
      exact (quiet (both.kind.trans filler)).trans both.pins

/-- An armed cycle that nothing holds up takes its nominal T-states. -/
theorem run_of_armed {c : Cycle} {s : State} {n : Nat} (h : c.Steady s) (ht : c.t = -1) (nominal : c.nominal = n) (pos : 0 < n) :
    ∃ u, edges true (2 * n) s c = some (2 * n, u) ∧ waves true (2 * n) s c = actedPins (2 * n) 0 s c ∧
      (c.kind = .filler → u.pins = s.pins) := by
  obtain ⟨m, rfl⟩ := Nat.exists_eq_add_one.2 pos
  exact run_of_steady (k := 0) h (by simp [ht]) (by omega)

/-- Settles O56: a bus cycle samples WAIT and BUSREQ as inactive, and a filler does not sample them. -/
theorem cycleLengths : Obligations.CycleLengths := by
  intro s c ht hrel hst
  constructor
  · intro n hkind hw hb
    have nominal : c.nominal = n ∧ 0 < n := by
      obtain ⟨k, rfl⟩ | ⟨k, rfl⟩ | ⟨k, rfl⟩ | ⟨k, rfl⟩ | ⟨k, rfl⟩ | ⟨k, rfl⟩ := hkind <;> simp [Cycle.nominal, k]
    obtain ⟨u, run, -⟩ := run_of_armed ⟨hrel, hst, .inr ⟨hw, hb⟩⟩ ht nominal.1 nominal.2
    exact ⟨u, run⟩
  · intro hkind pos
    obtain ⟨u, run, -, quiet⟩ := run_of_armed ⟨hrel, hst, .inl hkind⟩ ht (by simp [Cycle.nominal, hkind]) pos
    exact ⟨u, run, quiet hkind⟩

/-! ### The wave forms (R96, R98 to R102) -/

/-- Settles O59: each table is read off the pin actions. -/
theorem cycleWaveforms : Obligations.CycleWaveforms := by
  intro s a v hw hb
  have run (k : CycleKind) (n : Nat) (nominal : (Cycle.armed k a v 0).nominal = n) (pos : 0 < n) :
      waves true (2 * n) s (.armed k a v 0) = actedPins (2 * n) 0 s (.armed k a v 0) := by
    obtain ⟨-, -, shown, -⟩ := run_of_armed ⟨rfl, rfl, .inr ⟨hw, hb⟩⟩ rfl nominal pos
    exact shown
  have fetch := run .fetch 4 rfl (by decide)
  have memRead := run .memRead 3 rfl (by decide)
  have memWrite := run .memWrite 3 rfl (by decide)
  have ioRead := run .ioRead 4 rfl (by decide)
  have ioWrite := run .ioWrite 4 rfl (by decide)
  have intAck := run .intAck 6 rfl (by decide)
  simp only [fetch, memRead, memWrite, ioRead, ioWrite, intAck]
  and_intros <;> rfl

end Sys2Proof.Machine
end

section
/-! PROOFS. What holds a bus cycle up: WAIT and the release of the bus (R94, R110 to R113, R115). -/

namespace Sys2Proof.Machine

/-! ### WAIT (R94, R115) -/

/-- Of the registers the refresh of a fetch or an acknowledge alone changes any (R96, R102). -/
theorem State.act_regs_of_no_refresh (s : State) (c : Cycle) {h : Nat} (hf : c.kind = .fetch → h ≠ 4) (ha : c.kind = .intAck → h ≠ 8) :
    (s.act c h).1.regs = s.regs := by
  unfold State.act
  split
  case h_1 =>
    unfold State.actFetch
    split
    case h_3 => exact absurd rfl (hf ‹_›)
    all_goals rfl
  case h_2 => unfold State.actMemRead; split <;> rfl
  case h_3 => unfold State.actMemWrite; split <;> rfl
  case h_4 => unfold State.actIoRead; split <;> rfl
  case h_5 => unfold State.actIoWrite; split <;> rfl
  case h_6 =>
    unfold State.actIntAck
    split
    case h_3 => exact absurd rfl (ha ‹_›)
    all_goals rfl
  case h_7 => rfl

/-- No cycle samples WAIT in its last T-state. -/
theorem Cycle.sample_before_last {c : Cycle} {k : Nat} (h : c.kind.waitHalf = some (2 * k + 1)) : k + 1 < c.nominal := by
  unfold Cycle.nominal
  cases hk : c.kind <;> simp [hk, CycleKind.waitHalf] at h ⊢ <;> omega

/-- A WAIT sample comes before the refresh. -/
theorem Cycle.refresh_after_sample {c : Cycle} {k : Nat} (h : c.kind.waitHalf = some (2 * k + 1)) :
    (c.kind = .fetch → 2 * k ≠ 4) ∧ (c.kind = .intAck → 2 * k ≠ 8) := by
  constructor
  · intro hk
    rw [hk] at h
    simp [CycleKind.waitHalf] at h
    omega
  · intro hk
    rw [hk] at h
    simp [CycleKind.waitHalf] at h
    omega

/-- A rising edge before the last T-state, and before the refresh, counts and changes no register. -/
theorem State.rise_early {s : State} {c : Cycle} {k : Nat} (hr : c.release = .none) (ht : c.t + 1 = k) (hk : k + 1 < c.nominal)
    (hf : c.kind = .fetch → 2 * k ≠ 4) (ha : c.kind = .intAck → 2 * k ≠ 8) :
    ∃ u d, s.rise c = .going u ∧ u.cycle = some d ∧ d.t = k ∧ d.kind = c.kind ∧ d.release = .none ∧ u.regs = s.regs := by
  obtain ⟨⟨a, g, hc⟩, -⟩ := s.act_keeps (c.inState k) (2 * k)
  have regs : (s.act (c.inState k) (2 * k)).1.regs = s.regs := State.act_regs_of_no_refresh s _ hf ha
  have notLast : ¬ (c.kind.drivesBus && k + 1 == c.nominal) = true := by simp; omega
  rw [State.rise_counts hr ht (Nat.lt_of_succ_lt hk), hc, beginTState]
  exact ⟨_, _, rfl, congrArg some (if_neg notLast), rfl, rfl, hr, regs⟩

/-- A WAIT sampled low in T-state `k` has that T-state run again (R94). -/
theorem wait_repeats {s : State} {c : Cycle} {k : Nat} (hw : c.kind.waitHalf = some (2 * k + 1)) (hr : c.release = .none) (ht : c.t = k)
    (hwait : s.pins.level.wait = false) :
    ∃ u d, s.fall c = .going u ∧ u.cycle = some d ∧ d.t = (k : Int) - 1 ∧ u.regs = s.regs ∧
      ∃ v e, u.rise d = .going v ∧ v.cycle = some e ∧ e.t = k ∧ e.kind = c.kind ∧ e.release = .none ∧ v.regs = s.regs := by
  have early := Cycle.sample_before_last hw
  obtain ⟨⟨a, g, hc⟩, wait, -⟩ := s.act_keeps c (2 * k + 1)
  have regs : (s.act c (2 * k + 1)).1.regs = s.regs := State.act_regs_of_no_refresh s c (by omega) (by omega)
  rw [State.fall_counts hr ht (Nat.lt_of_succ_lt early), hc, endTState, if_pos (by simp [hw, wait, hwait])]
  refine ⟨_, _, rfl, rfl, congrArg (· - 1) ht, regs, ?_⟩
  obtain ⟨v, e, hv, he, count, kind, release, same⟩ := State.rise_early
    (s := { (s.act c (2 * k + 1)).1 with cycle := some { c with addr := a, got := g, t := c.t - 1 } })
    (c := { c with addr := a, got := g, t := c.t - 1 }) hr (by simp [ht]) early
    (Cycle.refresh_after_sample hw).1 (Cycle.refresh_after_sample hw).2
  exact ⟨v, e, hv, he, count, kind, release, same.trans regs⟩

/-- Settles O57. -/
theorem waitRepeatsTheTState : Obligations.WaitRepeatsTheTState := by
  refine ⟨fun s c t hkind ht hr hwait => wait_repeats ?_ hr ht hwait, fun s inp hmode hcycle hdir hinp => ?_⟩
  · obtain ⟨rfl, k | k | k⟩ | ⟨rfl, k | k⟩ | ⟨rfl, k⟩ := hkind <;> simp [k, CycleKind.waitHalf]
  · have none : (s.edge inp).cycle = .none := hcycle
    rw [State.clock_of_running ((State.edge_reset hdir inp).trans hinp) hmode, State.advance, none]

/-! ### Bus release (R110 to R113) -/

theorem Cycle.nominal_pos (c : Cycle) (h : c.kind ≠ .filler) : 0 < c.nominal := by
  unfold Cycle.nominal
  cases hk : c.kind
  case filler => exact absurd hk h
  all_goals exact Nat.succ_pos _

/-- In the last T-state, where a release is staged, the end of the cycle is put off (R110). -/
theorem State.fall_staged {s : State} {c : Cycle} {k : Nat} (hr : c.release = .none) (hst : c.releaseStaged = true) (ht : c.t = k)
    (hk : k + 1 = c.nominal) :
    ∃ u d, s.fall c = .going u ∧ u.cycle = some d ∧ d.release = .pending ∧ u.pins = (s.act c (2 * k + 1)).1.pins := by
  obtain ⟨⟨a, g, hc⟩, -⟩ := s.act_keeps c (2 * k + 1)
  have unsampled : ¬ (c.kind.waitHalf == some (2 * k + 1) && !(s.act c (2 * k + 1)).1.pins.level.wait) = true := fun sampled => by
    have early := Cycle.sample_before_last (by simpa using (Bool.and_eq_true_iff.1 sampled).1)
    omega
  rw [State.fall_counts hr ht (by omega), hc, endTState, if_neg unsampled, if_pos (by exact beq_iff_eq.2 hk), if_pos hst]
  exact ⟨_, _, rfl, rfl, rfl, rfl⟩

/-- Settles O58: one falling edge that stages the release, and then a case for each stage of it. -/
theorem busReleaseAndRetake : Obligations.BusReleaseAndRetake := by
  intro s c
  refine ⟨fun hkind hr hst ht => ?_, fun hr => ?_, fun hr => ⟨?_, fun hb => ?_, fun hb => ?_⟩, fun hr => ?_⟩
  · have pos := c.nominal_pos hkind
    obtain ⟨k, hk⟩ : ∃ k : Nat, c.t = k := Int.eq_ofNat_of_zero_le (by omega)
    obtain ⟨u, d, hfall, hd, pending, pins⟩ := State.fall_staged (s := s) hr hst hk (by omega)
    refine ⟨u, d, hfall, hd, pending, ?_⟩
    rw [pins, hk, Int.toNat_natCast]
  · simp [State.rise, hr, State.mapPins, PinBus.release]
  · simp [State.fall, hr]
  · simp [State.rise, hr, hb]
  · simp [State.rise, hr, hb, State.mapPins, PinBus.retake, allLines]
  · simp [State.fall, hr]

end Sys2Proof.Machine
end

section
/-! PROOFS. Each byte string has one meaning: what the decoder reads from it is the instruction that it encodes (R140 to R160, R238). -/

namespace Sys2Proof

open Sys2Proof.Machine

/-! ### What a table reads -/

/-- `d` is right about `bs`: a well-formed instruction whose encoding `bs` begins with, or the news that `bs` ends inside an instruction, of which
four bytes are enough. -/
def Decoded.Reads (bs : List Byte) : Decoded → Prop
  | .ok i rest => i.wf = true ∧ bs = encode i ++ rest
  | .truncated => bs.length < 4

theorem Decoded.Reads.exists_ok {d : Decoded} {bs : List Byte} (h : d.Reads bs) (long : 4 ≤ bs.length) : ∃ i rest, d = .ok i rest := by
  cases d with
  | ok i rest => exact ⟨i, rest, rfl⟩
  | truncated => exact absurd long (Nat.not_le.2 h)

theorem Decoded.map_eq_ok_iff (d : Decoded) (f : Instr → Instr) (i : Instr) (rest : List Byte) :
    d.map f = .ok i rest ↔ ∃ j, d = .ok j rest ∧ i = f j := by
  cases d <;> simp [Decoded.map, eq_comm, and_comm]

section
variable {bs rest : List Byte}

theorem reads_ok {i : Instr} (hwf : i.wf = true) (h : bs = encode i ++ rest) : (Decoded.ok i rest).Reads bs := ⟨hwf, h⟩

theorem reads_truncated (short : bs.length < 4) : Decoded.truncated.Reads bs := short

/-- The opcode bytes `pre` and one operand byte. -/
theorem reads_withByte (pre : List Byte) {k : Byte → Instr} (hwf : ∀ n, (k n).wf = true := by exact fun _ => rfl)
    (h : ∀ n, encode (k n) = pre ++ [n] := by exact fun _ => rfl) (short : pre.length < 4 := by simp) : (withByte rest k).Reads (pre ++ rest) := by
  match rest with
  | [] => exact reads_truncated (by simpa using short)
  | n :: rest => exact reads_ok (hwf n) (by simp [h])

/-- The opcode bytes `pre` and two operand bytes. -/
theorem reads_withTwoBytes (pre : List Byte) {k : Byte → Byte → Instr} (hwf : ∀ d n, (k d n).wf = true := by exact fun _ _ => rfl)
    (h : ∀ d n, encode (k d n) = pre ++ [d, n] := by exact fun _ _ => rfl) (short : pre.length < 3 := by simp) :
    (withTwoBytes rest k).Reads (pre ++ rest) := by
  match rest with
  | [] => exact reads_truncated (by simpa using Nat.lt_succ_of_lt short)
  | [_] => exact reads_truncated (by rw [List.length_append]; exact Nat.succ_lt_succ short)
  | d :: n :: rest => exact reads_ok (hwf d n) (by simp [h])

/-- The opcode bytes `pre` and a 16-bit immediate, low byte first (R153). -/
theorem reads_withWord (pre : List Byte) {k : Word → Instr} (hwf : ∀ nn, (k nn).wf = true := by exact fun _ => rfl)
    (h : ∀ nn, encode (k nn) = pre ++ [lo8 nn, hi8 nn] := by exact fun _ => rfl) (short : pre.length < 3 := by simp) :
    (withWord rest k).Reads (pre ++ rest) :=
  reads_withTwoBytes pre (fun _ _ => hwf _) (fun lo hi => by simp [h]) short
end

/-! ### The operand codes, back from the fields of an opcode byte (R140, R145 to R148) -/

theorem eq_six_or_r8Code (y : BitVec 3) : y = 6 ∨ ∃ r : R8, y = r.code := by
  obtain rfl | rfl | rfl | rfl | rfl | rfl | rfl | rfl := eq_of_three_bits y
  exacts [.inr ⟨.b, rfl⟩, .inr ⟨.c, rfl⟩, .inr ⟨.d, rfl⟩, .inr ⟨.e, rfl⟩, .inr ⟨.h, rfl⟩, .inr ⟨.l, rfl⟩, .inl rfl, .inr ⟨.a, rfl⟩]

/-- `y = p:q`, where `p` names a pair (R140, R147). -/
theorem exists_pairCode_append (y : BitVec 3) : ∃ p : RP, y = p.code ++ 0#1 ∨ y = p.code ++ 1#1 := by
  obtain rfl | rfl | rfl | rfl | rfl | rfl | rfl | rfl := eq_of_three_bits y
  exacts [⟨.bc, .inl rfl⟩, ⟨.bc, .inr rfl⟩, ⟨.de, .inl rfl⟩, ⟨.de, .inr rfl⟩, ⟨.hl, .inl rfl⟩, ⟨.hl, .inr rfl⟩, ⟨.sp, .inl rfl⟩, ⟨.sp, .inr rfl⟩]

theorem exists_opYZ (op : Byte) : ∃ x y z, op = opYZ x y z := ⟨_, _, _, (opYZ_fields op).symm⟩

theorem eq_of_two_bits (x : BitVec 2) : x = 0 ∨ x = 1 ∨ x = 2 ∨ x = 3 := by revert x; decide

theorem byte_of_xyOf {b : Byte} {x : XY} (h : xyOf b = some x) : b = x.byte := by
  unfold xyOf at h
  split_ifs at h with hdd hfd <;> cases h
  · exact hdd
  · exact hfd

@[simp] theorem condOf_code (y : BitVec 3) : (condOf y).code = y := by revert y; decide

/-! ### The main table (R156) -/

theorem decodeQuadrant0_reads (y z : BitVec 3) (rest : List Byte) : (decodeQuadrant0 y z rest).Reads (opYZ 0 y z :: rest) := by
  obtain rfl | rfl | rfl | rfl | rfl | rfl | rfl | rfl := eq_of_three_bits z
  · obtain rfl | rfl | rfl | rfl | rfl | rfl | rfl | rfl := eq_of_three_bits y
    iterate 2 exact reads_ok rfl rfl
    all_goals exact reads_withByte [_]
  · obtain ⟨p, rfl | rfl⟩ := exists_pairCode_append y <;> cases p
    iterate 4 exact reads_withWord [_]
    all_goals exact reads_ok rfl rfl
  · obtain rfl | rfl | rfl | rfl | rfl | rfl | rfl | rfl := eq_of_three_bits y
    iterate 4 exact reads_ok rfl rfl
    all_goals exact reads_withWord [_]
  · obtain ⟨p, rfl | rfl⟩ := exists_pairCode_append y <;> cases p <;> exact reads_ok rfl rfl
  iterate 2
    obtain rfl | ⟨r, rfl⟩ := eq_six_or_r8Code y
    · exact reads_ok rfl rfl
    · cases r <;> exact reads_ok rfl rfl
  · obtain rfl | ⟨r, rfl⟩ := eq_six_or_r8Code y
    · exact reads_withByte [_]
    · cases r <;> exact reads_withByte [_]
  · obtain rfl | rfl | rfl | rfl | rfl | rfl | rfl | rfl := eq_of_three_bits y <;> exact reads_ok rfl rfl

theorem decodeQuadrant1_reads (y z : BitVec 3) (rest : List Byte) : (decodeQuadrant1 y z rest).Reads (opYZ 1 y z :: rest) := by
  obtain rfl | ⟨r, rfl⟩ := eq_six_or_r8Code y <;> obtain rfl | ⟨r2, rfl⟩ := eq_six_or_r8Code z
  · exact reads_ok rfl rfl
  all_goals
    simp only [decodeQuadrant1, r8Of_code]
    exact reads_ok rfl rfl

theorem decodeQuadrant2_reads (y z : BitVec 3) (rest : List Byte) : (decodeQuadrant2 y z rest).Reads (opYZ 2 y z :: rest) := by
  obtain rfl | ⟨r, rfl⟩ := eq_six_or_r8Code z
  · obtain rfl | rfl | rfl | rfl | rfl | rfl | rfl | rfl := eq_of_three_bits y <;> exact reads_ok rfl rfl
  · simp only [decodeQuadrant2, r8Of_code]
    obtain rfl | rfl | rfl | rfl | rfl | rfl | rfl | rfl := eq_of_three_bits y <;> exact reads_ok rfl rfl

/-- The places of the four prefix bytes, which `decode` takes first, read as a no-op; their bytes are no encoding of it (R150). -/
theorem decodeQuadrant3_reads (y z : BitVec 3) (rest : List Byte) (hcb : opYZ 3 y z ≠ 0xCB) (hxy : xyOf (opYZ 3 y z) = none)
    (hed : opYZ 3 y z ≠ 0xED) : (decodeQuadrant3 y z rest).Reads (opYZ 3 y z :: rest) := by
  obtain rfl | rfl | rfl | rfl | rfl | rfl | rfl | rfl := eq_of_three_bits z
  · exact reads_ok rfl (by simp [encode])
  · obtain rfl | rfl | rfl | rfl | rfl | rfl | rfl | rfl := eq_of_three_bits y <;> exact reads_ok rfl rfl
  · exact reads_withWord [_] (h := fun _ => by simp [encode])
  · obtain rfl | rfl | rfl | rfl | rfl | rfl | rfl | rfl := eq_of_three_bits y
    · exact reads_withWord [_]
    · cases hcb rfl
    iterate 2 exact reads_withByte [_]
    all_goals exact reads_ok rfl rfl
  · exact reads_withWord [_] (h := fun _ => by simp [encode])
  · obtain rfl | rfl | rfl | rfl | rfl | rfl | rfl | rfl := eq_of_three_bits y
    · exact reads_ok rfl rfl
    · exact reads_withWord [_]
    · exact reads_ok rfl rfl
    · cases hxy
    · exact reads_ok rfl rfl
    · cases hed rfl
    · exact reads_ok rfl rfl
    · cases hxy
  · obtain rfl | rfl | rfl | rfl | rfl | rfl | rfl | rfl := eq_of_three_bits y <;> exact reads_withByte [_]
  · exact reads_ok rfl rfl

theorem decodeMain_reads {op : Byte} (rest : List Byte) (hcb : op ≠ 0xCB) (hxy : xyOf op = none) (hed : op ≠ 0xED) :
    (decodeMain op rest).Reads (op :: rest) := by
  obtain ⟨x, y, z, rfl⟩ := exists_opYZ op
  rw [decodeMain, fieldX_opYZ, fieldY_opYZ, fieldZ_opYZ]
  obtain rfl | rfl | rfl | rfl := eq_of_two_bits x
  · exact decodeQuadrant0_reads y z rest
  · exact decodeQuadrant1_reads y z rest
  · exact decodeQuadrant2_reads y z rest
  · exact decodeQuadrant3_reads y z rest hcb hxy hed

/-! ### CB and ED (R157, R158) -/

theorem wf_encode_decodeCb (op : Byte) : (decodeCb op).wf = true ∧ encode (decodeCb op) = [0xCB, op] := by revert op; decide

theorem wf_encode_decodeEd2 (y z : BitVec 3) : (decodeEd2 y z).wf = true ∧ encode (decodeEd2 y z) = [0xED, opYZ 2 y z] := by revert y z; decide

theorem decodeEd1_reads (y z : BitVec 3) (rest : List Byte) : (decodeEd1 y z rest).Reads (0xED :: opYZ 1 y z :: rest) := by
  obtain rfl | rfl | rfl | rfl | rfl | rfl | rfl | rfl := eq_of_three_bits z
  iterate 2
    obtain rfl | ⟨r, rfl⟩ := eq_six_or_r8Code y
    · exact reads_ok rfl rfl
    · cases r <;> exact reads_ok rfl rfl
  · obtain ⟨p, rfl | rfl⟩ := exists_pairCode_append y <;> cases p <;> exact reads_ok rfl rfl
  · obtain ⟨p, rfl | rfl⟩ := exists_pairCode_append y <;> cases p <;> exact reads_withWord [_, _]
  · exact reads_ok rfl rfl
  · obtain rfl | rfl | rfl | rfl | rfl | rfl | rfl | rfl := eq_of_three_bits y <;> exact reads_ok rfl rfl
  · exact reads_ok rfl rfl
  · obtain rfl | rfl | rfl | rfl | rfl | rfl | rfl | rfl := eq_of_three_bits y <;> exact reads_ok rfl rfl

theorem decodeEd_reads (op : Byte) (rest : List Byte) : (decodeEd op rest).Reads (0xED :: op :: rest) := by
  obtain ⟨x, y, z, rfl⟩ := exists_opYZ op
  rw [decodeEd, fieldX_opYZ, fieldY_opYZ, fieldZ_opYZ]
  obtain rfl | rfl | rfl | rfl := eq_of_two_bits x
  · exact reads_ok rfl rfl
  · exact decodeEd1_reads y z rest
  · obtain ⟨hwf, bytes⟩ := wf_encode_decodeEd2 y z
    exact reads_ok hwf (by rw [bytes]; rfl)
  · exact reads_ok rfl rfl

/-! ### The tables under an index modifier (R144, R159) -/

theorem wf_encode_decodeXyCb (x : XY) (d op : Byte) : (decodeXyCb x d op).wf = true ∧ encode (decodeXyCb x d op) = [x.byte, 0xCB, d, op] := by
  obtain ⟨q, y, z, rfl⟩ := exists_opYZ op
  rw [decodeXyCb, fieldX_opYZ, fieldY_opYZ, fieldZ_opYZ]
  obtain rfl | rfl | rfl | rfl := eq_of_two_bits q
  · obtain rfl | ⟨r, rfl⟩ := eq_six_or_r8Code z
    · obtain rfl | rfl | rfl | rfl | rfl | rfl | rfl | rfl := eq_of_three_bits y <;> exact ⟨rfl, rfl⟩
    · rw [r8Of_code]
      obtain rfl | rfl | rfl | rfl | rfl | rfl | rfl | rfl := eq_of_three_bits y <;> exact ⟨rfl, rfl⟩
  · exact ⟨rfl, rfl⟩
  iterate 2
    obtain rfl | ⟨r, rfl⟩ := eq_six_or_r8Code z
    · exact ⟨rfl, rfl⟩
    · rw [r8Of_code]
      exact ⟨rfl, rfl⟩

theorem decodeXy0_reads {x : XY} {y z : BitVec 3} {rest : List Byte} {d : Decoded} (h : decodeXy0 x y z rest = some d) :
    d.Reads (x.byte :: opYZ 0 y z :: rest) := by
  obtain rfl | rfl | rfl | rfl | rfl | rfl | rfl | rfl := eq_of_three_bits z
  · cases h
  · obtain ⟨p, rfl | rfl⟩ := exists_pairCode_append y <;> cases p <;> cases h
    · exact reads_withWord [_, _]
    all_goals exact reads_ok rfl rfl
  · obtain rfl | rfl | rfl | rfl | rfl | rfl | rfl | rfl := eq_of_three_bits y <;> cases h <;> exact reads_withWord [_, _]
  · obtain rfl | rfl | rfl | rfl | rfl | rfl | rfl | rfl := eq_of_three_bits y <;> cases h <;> exact reads_ok rfl rfl
  iterate 2
    obtain rfl | rfl | rfl | rfl | rfl | rfl | rfl | rfl := eq_of_three_bits y <;> cases h
    iterate 2 exact reads_ok rfl rfl
    exact reads_withByte [_, _]
  · obtain rfl | rfl | rfl | rfl | rfl | rfl | rfl | rfl := eq_of_three_bits y <;> cases h
    iterate 2 exact reads_withByte [_, _]
    exact reads_withTwoBytes [_, _]
  · cases h

theorem decodeXy1_reads (x : XY) (y z : BitVec 3) (rest : List Byte) : (decodeXy1 x y z rest).Reads (x.byte :: opYZ 1 y z :: rest) := by
  obtain rfl | ⟨r, rfl⟩ := eq_six_or_r8Code y <;> obtain rfl | ⟨r2, rfl⟩ := eq_six_or_r8Code z
  · exact reads_ok rfl rfl
  · cases r2 <;> exact reads_withByte [_, _]
  · cases r <;> exact reads_withByte [_, _]
  · cases r <;> cases r2 <;> exact reads_ok rfl rfl

theorem decodeXy_reads {x : XY} {op : Byte} {rest : List Byte} {d : Decoded} (h : decodeXy x op rest = some d) :
    d.Reads (x.byte :: op :: rest) := by
  obtain ⟨q, y, z, rfl⟩ := exists_opYZ op
  simp only [decodeXy, fieldX_opYZ, fieldY_opYZ, fieldZ_opYZ] at h
  obtain rfl | rfl | rfl | rfl := eq_of_two_bits q
  · exact decodeXy0_reads h
  · cases h
    exact decodeXy1_reads x y z rest
  · obtain rfl | rfl | rfl | rfl | rfl | rfl | rfl | rfl := eq_of_three_bits z <;> cases h
    iterate 2 obtain rfl | rfl | rfl | rfl | rfl | rfl | rfl | rfl := eq_of_three_bits y <;> exact reads_ok rfl rfl
    obtain rfl | rfl | rfl | rfl | rfl | rfl | rfl | rfl := eq_of_three_bits y <;> exact reads_withByte [_, _]
  · split_ifs at h <;> cases h
    all_goals
      rw [‹opYZ 3 y z = _›]
      exact reads_ok rfl rfl

/-- An instruction that takes an index has a first byte that an index modifier changes the meaning of (R159). -/
theorem decodeXy_head_of_takesIndex {i : Instr} (h : i.takesIndex = true) :
    ∃ op tail, encode i = op :: tail ∧ ∀ (x : XY) (rest : List Byte), op ≠ 0xCB → decodeXy x op rest ≠ none := by
  cases i with
  | addHlRp p => cases p <;> exact ⟨_, _, rfl, fun _ _ _ => Option.some_ne_none _⟩
  | ldRpNn p | incRp p | decRp p | popRr p | pushRr p =>
    cases p <;> cases h
    exact ⟨_, _, rfl, fun _ _ _ => Option.some_ne_none _⟩
  | incR r | decR r | ldRN r | addR r | adcR r | subR r | sbcR r | andR r | xorR r | orR r | cpR r =>
    cases r <;> cases h <;> exact ⟨_, _, rfl, fun _ _ _ => Option.some_ne_none _⟩
  | ldRR | ldRMem | ldMemR => exact ⟨_, _, rfl, fun _ _ _ => by simp [decodeXy]⟩
  | rlcR | rlcMem | rrcR | rrcMem | rlR | rlMem | rrR | rrMem | slaR | slaMem | sraR | sraMem | sllR | sllMem | srlR | srlMem | bitR | bitMem
  | resR | resMem | setR | setMem => exact ⟨_, _, rfl, fun _ _ hcb => absurd rfl hcb⟩
  | ldMemHl | ldHlMem | incMem | decMem | ldHlN | halt | addMem | adcMem | subMem | sbcMem | andMem | xorMem | orMem | cpMem | jpHl | ldSpHl
  | exSpHl => exact ⟨_, _, rfl, fun _ _ _ => Option.some_ne_none _⟩
  | _ => cases h

/-! ### The decoder (R150) -/

/-- Without a prefix of its own the decoder answers by one of the tables main, CB and ED. -/
theorem decode_reads_of_xyOf_none {b : Byte} (tail : List Byte) (hxy : xyOf b = none) : (decode (b :: tail)).Reads (b :: tail) := by
  by_cases hcb : b = 0xCB
  · subst hcb
    cases tail with
    | nil => exact reads_truncated (by decide)
    | cons op rest =>
      obtain ⟨hwf, bytes⟩ := wf_encode_decodeCb op
      exact reads_ok hwf (by rw [bytes]; rfl)
  by_cases hed : b = 0xED
  · subst hed
    cases tail with
    | nil => exact reads_truncated (by decide)
    | cons op rest => exact decodeEd_reads op rest
  · rw [decode.eq_def]
    simp only [hxy, if_neg hcb, if_neg hed]
    exact decodeMain_reads tail hcb hxy hed

/-- A DD or FD byte leads to the tables under an index modifier, or it is an ignored prefix of an instruction that takes no index (R152, R238). -/
theorem decode_xyByte (x : XY) (tail : List Byte) :
    (decode (x.byte :: tail)).Reads (x.byte :: tail) ∨
    decode (x.byte :: tail) = (decode tail).map (.ignored x) ∧ ∀ i rest, tail = encode i ++ rest → i.takesIndex = false := by
  cases tail with
  | nil => exact .inl (by cases x <;> exact reads_truncated (by decide))
  | cons op rest =>
    by_cases hcb : op = 0xCB
    · left
      rw [hcb, decode.eq_def]
      simp only [xyOf_byte, if_true]
      exact reads_withTwoBytes [_, _] (fun d op => (wf_encode_decodeXyCb x d op).1) fun d op => (wf_encode_decodeXyCb x d op).2
    cases h : decodeXy x op rest with
    | some d =>
      left
      rw [decode.eq_def]
      simp only [xyOf_byte, if_neg hcb, h]
      exact decodeXy_reads h
    | none =>
      refine .inr ⟨decode_ignored hcb h, fun i after bytes => Bool.eq_false_of_not_eq_true fun takes => ?_⟩
      obtain ⟨op2, tail, enc, changed⟩ := decodeXy_head_of_takesIndex takes
      rw [enc] at bytes
      obtain ⟨rfl, -⟩ := List.cons.inj bytes
      exact changed x rest hcb h

/-- Settles O20: `decode_encode`. -/
theorem decodeEncodeRoundTrip : Obligations.DecodeEncodeRoundTrip := fun _ rest h => decode_encode h rest

/-- Settles O21, by induction on the bytes: each table reads encodings alone, and an ignored prefix stands before a whole instruction. -/
theorem decodeReadsOnlyEncodings : Obligations.DecodeReadsOnlyEncodings := by
  intro bs
  induction bs with
  | nil => intro i rest h; cases h
  | cons b tail ih =>
    intro i rest h
    have own (reads : (decode (b :: tail)).Reads (b :: tail)) : i.wf = true ∧ b :: tail = encode i ++ rest := by rwa [h] at reads
    cases hxy : xyOf b with
    | none => exact own (decode_reads_of_xyOf_none tail hxy)
    | some x =>
      obtain rfl := byte_of_xyOf hxy
      obtain reads | ⟨ignored, plain⟩ := decode_xyByte x tail
      · exact own reads
      · rw [ignored] at h
        obtain ⟨j, behind, rfl⟩ := (Decoded.map_eq_ok_iff _ _ i rest).1 h
        obtain ⟨hwf, bytes⟩ := ih j rest behind
        exact ⟨by simp [Instr.wf, hwf, plain j rest bytes], by rw [encode, List.cons_append, ← bytes]⟩

/-- Settles O22, by induction on the prefixes: no table needs more than four bytes. -/
theorem everyOpcodeDecodes : Obligations.EveryOpcodeDecodes := by
  intro prefixes b c d e rest hxy
  induction prefixes with
  | nil => exact (decode_reads_of_xyOf_none _ hxy).exists_ok (by simp)
  | cons x prefixes ih =>
    obtain reads | ⟨ignored, -⟩ := decode_xyByte x (prefixes.map XY.byte ++ b :: c :: d :: e :: rest)
    · exact reads.exists_ok (by simp only [List.length_cons, List.length_append]; omega)
    · obtain ⟨i, after, h⟩ := ih
      exact ⟨.ignored x i, after, by rw [List.map_cons, List.cons_append, ignored, h]; rfl⟩

/-- Settles O18: behind an ignored prefix stands no CB, so the fetch behind it is that of the instruction alone. -/
theorem ignoredPrefixRunsTheInstruction : Obligations.IgnoredPrefixRunsTheInstruction := by
  refine fun x i => ⟨fun s => ?_, fun hwf => ⟨rfl, ?_⟩⟩
  · obtain ⟨s1, ev, ⟨r, h⟩, -⟩ := exec_performs i s
    exact ⟨_, (exec_ignored x i s).trans h, h⟩
  · simp only [Instr.wf, Bool.and_eq_true, Bool.not_eq_true'] at hwf
    obtain ⟨op, tail, enc, hcb⟩ := encode_head_ne_cb i hwf.1
    simp only [encode, enc, fetchCycles, xyOf_byte, if_neg hcb]

/-- Settles O19. -/
theorem writtenWordsDecode : Obligations.WrittenWordsDecode := by
  unfold Obligations.WrittenWordsDecode
  decide

end Sys2Proof
end

section
/-! PROOFS. Sums and differences of words of any width, with a carry: as numbers, and their signed overflow (R172, R174, R184 to R186). -/

namespace Sys2Proof.Machine

/-! ### Words as numbers -/

theorem bit01_le_one (c : Bool) : bit01 c ≤ 1 := by cases c <;> decide

theorem bit01_not (c : Bool) : (bit01 (!c) : Int) = 1 - bit01 c := by cases c <;> rfl

theorem intCast_toNat_ofInt {w : Nat} (i : Int) : ((BitVec.ofInt w i).toNat : Int) = i % 2 ^ w := by
  rw [BitVec.toNat_ofInt, Int.toNat_of_nonneg (Int.emod_nonneg _ (by positivity))]
  push_cast
  rfl

theorem intCast_toNat_not {w : Nat} (b : BitVec w) : ((~~~b).toNat : Int) = 2 ^ w - 1 - b.toNat := by
  have hb := b.isLt
  rw [BitVec.toNat_not, Nat.sub_sub, Nat.cast_sub (by omega)]
  push_cast
  ring

theorem beq_zero_eq {w : Nat} (x : BitVec w) : (x == 0) = decide (x.toNat = 0) := by
  rw [Bool.eq_iff_iff]
  simp [← BitVec.toNat_inj]

theorem getLsbD_last {w : Nat} (x : BitVec (w + 1)) : x.getLsbD w = x.msb := (BitVec.msb_eq_getLsbD_last x).symm

/-- The sign bit and the signed value of a word, by the half of the range that it lies in. -/
theorem sign_cases {w : Nat} (x : BitVec (w + 1)) :
    (x.msb = false ∧ x.toNat < 2 ^ w ∧ x.toInt = x.toNat) ∨ (x.msb = true ∧ 2 ^ w ≤ x.toNat ∧ x.toInt = x.toNat - 2 * 2 ^ w) := by
  have hmsb : x.msb = decide (2 ^ w ≤ x.toNat) := BitVec.msb_eq_decide x
  rcases Nat.lt_or_ge x.toNat (2 ^ w) with h | h
  · have positive : x.msb = false := by simpa [hmsb] using h
    exact .inl ⟨positive, h, by simp [BitVec.toInt_eq_msb_cond, positive]⟩
  · have negative : x.msb = true := by simpa [hmsb] using h
    exact .inr ⟨negative, h, by simp [BitVec.toInt_eq_msb_cond, negative, pow_succ']⟩

theorem toInt_complement {w : Nat} (b : BitVec (w + 1)) : (~~~b).toInt = -b.toInt - 1 := by
  rw [BitVec.toInt_eq_msb_cond, BitVec.toInt_eq_msb_cond, intCast_toNat_not]
  cases hb : b.msb <;> simp [hb] <;> ring

/-- Below two moduli a number wraps at most once. -/
theorem mod_cases {n m : Nat} (h : n < 2 * m) : n % m = n ∨ n % m + m = n := by
  rcases Nat.lt_or_ge n m with below | above
  · exact .inl (Nat.mod_eq_of_lt below)
  · rw [Nat.mod_eq_sub_mod above, Nat.mod_eq_of_lt (by omega)]
    omega

/-- A borrow, as a comparison of numbers. -/
theorem borrow_iff (x y : Nat) (cin : Bool) : decide ((x : Int) - y - bit01 cin < 0) = decide (x < y + bit01 cin) := by
  rw [decide_eq_decide]
  omega

/-! ### Signed overflow -/

section
variable {w : Nat} (a b r : BitVec (w + 1)) (cin : Bool)

/-- A sum with carry leaves the signed range where the operands have one sign and the result the other: the unsigned sum wraps at most once, and the
three signs say where each word lies. -/
theorem carry_overflow (hr : r.toNat = (a.toNat + b.toNat + bit01 cin) % 2 ^ (w + 1)) :
    (a.msb == b.msb && r.msb != a.msb) =
      decide (a.toInt + b.toInt + bit01 cin < -2 ^ w ∨ 2 ^ w ≤ a.toInt + b.toInt + bit01 cin) := by
  have hc := bit01_le_one cin
  have wraps := mod_cases (n := a.toNat + b.toNat + bit01 cin) (m := 2 ^ (w + 1)) (by omega)
  rw [← hr, pow_succ'] at wraps
  have cast : (2 ^ w : Int) = ((2 ^ w : Nat) : Int) := by norm_cast
  rcases sign_cases a with ⟨ma, la, ia⟩ | ⟨ma, la, ia⟩ <;> rcases sign_cases b with ⟨mb, lb, ib⟩ | ⟨mb, lb, ib⟩ <;>
    rcases sign_cases r with ⟨mr, lr, ir⟩ | ⟨mr, lr, ir⟩ <;>
    simp only [ma, mb, mr, ia, ib, cast] <;> simp <;> omega

/-- A difference with borrow is the sum with the complement and the complemented borrow. -/
theorem borrow_overflow (hr : (r.toNat : Int) = (a.toNat - b.toNat - bit01 cin) % 2 ^ (w + 1)) :
    (a.msb != b.msb && r.msb != a.msb) =
      decide (a.toInt - b.toInt - bit01 cin < -2 ^ w ∨ 2 ^ w ≤ a.toInt - b.toInt - bit01 cin) := by
  have sum : r.toNat = (a.toNat + (~~~b).toNat + bit01 (!cin)) % 2 ^ (w + 1) := by
    zify
    rw [hr, intCast_toNat_not, bit01_not, ← Int.add_emod_right]
    ring_nf
  have signed : a.toInt - b.toInt - bit01 cin = a.toInt + (~~~b).toInt + bit01 (!cin) := by
    rw [toInt_complement, bit01_not]
    ring
  rw [signed, ← carry_overflow a (~~~b) r (!cin) sum]
  cases ha : a.msb <;> cases hb : b.msb <;> simp [hb]

/-- The bit that the ALU takes for the overflow of a sum. -/
theorem carry_overflow_bit : ((a ^^^ ~~~b) &&& (a ^^^ r)).getLsbD w = (a.msb == b.msb && r.msb != a.msb) := by
  rw [getLsbD_last]
  cases ha : a.msb <;> cases hb : b.msb <;> simp [ha, hb]

/-- The bit that the ALU takes for the overflow of a difference. -/
theorem borrow_overflow_bit : ((a ^^^ b) &&& (a ^^^ r)).getLsbD w = (a.msb != b.msb && r.msb != a.msb) := by
  rw [getLsbD_last]
  cases ha : a.msb <;> cases hb : b.msb <;> simp [ha, hb]

end

/-! ### 16-bit sums and differences (R184 to R186) -/

/-- Settles O40: `carry_overflow` and `borrow_overflow` at 16 bits, beside the numbers that the results stand for. -/
theorem wordFlagsAreArithmetic : Obligations.WordFlagsAreArithmetic := by
  intro a b cin old r d p m
  have sum : p.1.toNat = r % 65536 := BitVec.toNat_ofNat _ _
  have sumZero : p.2.z = decide (r % 65536 = 0) := sum ▸ beq_zero_eq p.1
  have sumOverflow := (carry_overflow_bit a b p.1).trans (carry_overflow a b p.1 cin sum)
  have difference : (m.1.toNat : Int) = d % 65536 := intCast_toNat_ofInt _
  have differenceZero : m.2.z = decide (d % 65536 = 0) := by
    simp only [← difference, Int.natCast_eq_zero]
    exact beq_zero_eq m.1
  have differenceOverflow := (borrow_overflow_bit a b m.1).trans (borrow_overflow a b m.1 cin difference)
  exact ⟨sum, rfl, sumZero, getLsbD_last p.1, rfl, rfl, rfl, rfl, rfl, rfl, sumOverflow, difference, rfl, differenceZero, getLsbD_last m.1,
    rfl, borrow_iff _ _ cin, differenceOverflow, rfl⟩

end Sys2Proof.Machine
end

section
/-! PROOFS. The 8-bit ALU: its five operand forms (R171, R245 to R252), and its results and flags as arithmetic (R170 to R179). -/

namespace Sys2Proof.Machine

/-! ### The operand forms -/

section
variable (op : AluOp) (s : State)

theorem exec_aluForms_reg (r : R8) : exec ((aluForms op).reg r) s = s.alu op (s.regs.getR8 r) := by cases op <;> rfl
theorem exec_aluForms_mem : exec (aluForms op).mem s = s.aluMem op := by cases op <;> rfl
theorem exec_aluForms_half (x : XY) (k : Half) : exec ((aluForms op).half x k) s = s.alu op (s.regs.getHalf x k) := by cases op <;> rfl
theorem exec_aluForms_idx (x : XY) (d : Byte) : exec ((aluForms op).idx x d) s = s.aluIdx op x d := by cases op <;> rfl
theorem exec_aluForms_imm (n : Byte) : exec ((aluForms op).imm n) s = s.alu op n := by cases op <;> rfl

end

/-- Settles O9: every form runs `State.alu` on its operand, once the operand has been read. -/
theorem aluOperationsComplete : Obligations.AluOperationsComplete := by
  intro s op r x hf d n
  exact ⟨⟨_, .inl rfl, exec_aluForms_reg op s r⟩, ⟨_, .inl rfl, exec_aluForms_mem op s⟩, ⟨_, .inl rfl, exec_aluForms_half op s x hf⟩,
    ⟨_, .inr rfl, exec_aluForms_idx op s x d⟩, ⟨_, .inl rfl, exec_aluForms_imm op s n⟩⟩

/-! ### Results and flags -/

theorem byte_sign (v : Byte) : v.getLsbD 7 = decide (128 ≤ v.toNat) := (getLsbD_last v).trans (BitVec.msb_eq_decide v)

theorem parity_eq_evenOnes (v : Byte) : parity v = evenOnes v := by revert v; decide

section
variable (a b : Byte) (cin : Bool)

theorem add8_toNat : (add8 a b cin).1.toNat = (a.toNat + b.toNat + bit01 cin) % 256 := BitVec.toNat_ofNat _ _

theorem add8_s : (add8 a b cin).2.s = decide (128 ≤ (a.toNat + b.toNat + bit01 cin) % 256) := by
  rw [← add8_toNat]
  exact byte_sign _

theorem add8_z : (add8 a b cin).2.z = decide ((a.toNat + b.toNat + bit01 cin) % 256 = 0) := by
  simp only [← add8_toNat]
  exact beq_zero_eq _

theorem add8_h : (add8 a b cin).2.h = decide (15 < a.toNat % 16 + b.toNat % 16 + bit01 cin) := rfl

theorem add8_c : (add8 a b cin).2.c = decide (255 < a.toNat + b.toNat + bit01 cin) := rfl

theorem add8_pv_msb : (add8 a b cin).2.pv = (a.msb == b.msb && (add8 a b cin).1.msb != a.msb) := carry_overflow_bit _ _ _

theorem add8_pv : (add8 a b cin).2.pv = decide (a.toInt + b.toInt + bit01 cin < -128 ∨ 127 < a.toInt + b.toInt + bit01 cin) :=
  (add8_pv_msb a b cin).trans (carry_overflow _ _ _ _ (add8_toNat a b cin))

theorem sub8_toNat : ((sub8 a b cin).1.toNat : Int) = (a.toNat - b.toNat - bit01 cin) % 256 := intCast_toNat_ofInt _

theorem sub8_s : (sub8 a b cin).2.s = decide (128 ≤ ((a.toNat : Int) - b.toNat - bit01 cin) % 256) := by
  simp only [← sub8_toNat, Nat.ofNat_le_cast]
  exact byte_sign _

theorem sub8_z : (sub8 a b cin).2.z = decide (((a.toNat : Int) - b.toNat - bit01 cin) % 256 = 0) := by
  simp only [← sub8_toNat, Int.natCast_eq_zero]
  exact beq_zero_eq _

theorem sub8_h : (sub8 a b cin).2.h = decide (a.toNat % 16 < b.toNat % 16 + bit01 cin) := borrow_iff _ _ _

theorem sub8_c : (sub8 a b cin).2.c = decide ((a.toNat : Int) - b.toNat - bit01 cin < 0) := rfl

theorem sub8_pv_msb : (sub8 a b cin).2.pv = (a.msb != b.msb && (sub8 a b cin).1.msb != a.msb) := borrow_overflow_bit _ _ _

theorem sub8_pv : (sub8 a b cin).2.pv = decide (a.toInt - b.toInt - bit01 cin < -128 ∨ 127 < a.toInt - b.toInt - bit01 cin) :=
  (sub8_pv_msb a b cin).trans (borrow_overflow _ _ _ _ (sub8_toNat a b cin))

/-- Off F5 and F3, CP has the flags of SUB (R179). -/
theorem cpFlags_kept : FlagsKept 0x28 (cpFlags a b).toByte (sub8 a b false).2.toByte := by simp [Flags.kept_iff, cpFlags]

end

theorem FlagsKept.and_eq {m x y : Byte} (h : FlagsKept m x y) : x &&& ~~~m = y &&& ~~~m := by
  apply BitVec.eq_of_getLsbD_eq
  intro k hk
  obtain masked | same := (flagsKept_iff m x y).1 h k hk
  · simp [masked]
  · simp [same]

/-- Settles O37: ADD and ADC are `add8` on A, whose overflow is that of the signed sum. -/
theorem additionFlagsAreArithmetic : Obligations.AdditionFlagsAreArithmetic := by
  intro s b
  refine ⟨_, _, exec_aluForms_imm .add s b, exec_aluForms_imm .adc s b, fun p hp => ?_⟩
  obtain ⟨ha, hf⟩ : p.1.regs.a = (add8 s.regs.a b p.2).1 ∧ p.1.regs.f = (add8 s.regs.a b p.2).2.toByte := by
    simp only [List.mem_cons, List.not_mem_nil, or_false] at hp
    obtain rfl | rfl := hp <;> exact ⟨rfl, rfl⟩
  simp only [ha, hf, flagS_toByte, flagZ_toByte, flag5_toByte, flagH_toByte, flag3_toByte, flagPV_toByte, flagN_toByte, flagC_toByte]
  exact ⟨add8_toNat _ _ _, add8_s _ _ _, add8_z _ _ _, rfl, rfl, add8_h _ _ _, rfl, add8_c _ _ _, add8_pv_msb _ _ _, add8_pv _ _ _⟩

/-- Settles O38: SUB and SBC are `sub8` on A, whose overflow is that of the signed difference; CP differs from SUB in A, F5 and F3 alone. -/
theorem subtractionFlagsAreArithmetic : Obligations.SubtractionFlagsAreArithmetic := by
  intro s b
  refine ⟨_, _, _, exec_aluForms_imm .sub s b, exec_aluForms_imm .sbc s b, exec_aluForms_imm .cp s b, fun p hp => ?_, rfl,
    flag5_toByte _, flag3_toByte _, (cpFlags_kept s.regs.a b).and_eq⟩
  obtain ⟨ha, hf⟩ : p.1.regs.a = (sub8 s.regs.a b p.2).1 ∧ p.1.regs.f = (sub8 s.regs.a b p.2).2.toByte := by
    simp only [List.mem_cons, List.not_mem_nil, or_false] at hp
    obtain rfl | rfl := hp <;> exact ⟨rfl, rfl⟩
  simp only [ha, hf, flagS_toByte, flagZ_toByte, flag5_toByte, flagH_toByte, flag3_toByte, flagPV_toByte, flagN_toByte, flagC_toByte]
  exact ⟨sub8_toNat _ _ _, sub8_s _ _ _, sub8_z _ _ _, rfl, rfl, sub8_h _ _ _, rfl, sub8_c _ _ _, sub8_pv_msb _ _ _, sub8_pv _ _ _⟩

/-- Settles O39: all three take their flags from `logicFlags` of the new A. -/
theorem logicFlagsFollowTheResult : Obligations.LogicFlagsFollowTheResult := by
  intro s b
  refine ⟨_, _, _, exec_aluForms_imm .and s b, exec_aluForms_imm .xor s b, exec_aluForms_imm .or s b, rfl, rfl, rfl, fun p hp => ?_⟩
  have hf : p.1.regs.f = (logicFlags p.1.regs.a p.2).toByte := by
    simp only [List.mem_cons, List.not_mem_nil, or_false] at hp
    obtain rfl | rfl | rfl := hp <;> rfl
  simp only [hf, flagS_toByte, flagZ_toByte, flag5_toByte, flagH_toByte, flag3_toByte, flagPV_toByte, flagN_toByte, flagC_toByte]
  exact ⟨getLsbD_last _, rfl, rfl, rfl, rfl, parity_eq_evenOnes _, rfl, rfl⟩

end Sys2Proof.Machine
end

section
/-! PROOFS. The rotates and shifts (R182, R300 to R307, R311). -/

namespace Sys2Proof.Machine

theorem rotShift_eq (op : RotOp) (v : Byte) (cin : Bool) : rotShift op v cin = (shifted op v cin, shiftedOut op v) := by
  revert v cin
  cases op <;> decide

theorem rot8_eq (op : RotOp) (v : Byte) (f : Flags) :
    rot8 op v f = (shifted op v f.c, flagsFrom (shifted op v f.c) false (evenOnes (shifted op v f.c)) false (shiftedOut op v)) := by
  simp only [rot8, rotShift_eq, sz53p, sz53, parity_eq_evenOnes]
  rfl

section
variable (op : RotOp) (s : State) (r : R8) (x : XY) (d : Byte)

theorem runs_rotForms_reg :
    Runs ((rotForms op).reg r) s
      ((s.regs.setR8 r (rot8 op (s.regs.getR8 r) s.flags).1).flagged (rot8 op (s.regs.getR8 r) s.flags).2) [] :=
  ⟨s.dec, .inl rfl, by cases op <;> rfl⟩

theorem runs_rotForms_mem :
    Runs (rotForms op).mem s (s.regs.flagged (rot8 op (s.busByte .mem s.regs.hl) s.flags).2)
      [.memRead s.regs.hl (s.busByte .mem s.regs.hl), .filler 1, .memWrite s.regs.hl (rot8 op (s.busByte .mem s.regs.hl) s.flags).1] :=
  ⟨s.dec, .inl rfl, by cases op <;> rfl⟩

theorem runs_rotForms_idx :
    Runs ((rotForms op).idx x d) s
      ({ s.regs with wz := s.regs.ea x d }.flagged (rot8 op (s.busByte .mem (s.regs.ea x d)) s.flags).2)
      [.filler 2, .memRead (s.regs.ea x d) (s.busByte .mem (s.regs.ea x d)), .filler 1,
        .memWrite (s.regs.ea x d) (rot8 op (s.busByte .mem (s.regs.ea x d)) s.flags).1] :=
  ⟨s.dec.eaComputed, .inr rfl, by cases op <;> rfl⟩

theorem runs_rotForms_idxReg :
    Runs ((rotForms op).idxReg x d r) s
      (({ s.regs with wz := s.regs.ea x d }.setR8 r (rot8 op (s.busByte .mem (s.regs.ea x d)) s.flags).1).flagged
        (rot8 op (s.busByte .mem (s.regs.ea x d)) s.flags).2)
      [.filler 2, .memRead (s.regs.ea x d) (s.busByte .mem (s.regs.ea x d)), .filler 1,
        .memWrite (s.regs.ea x d) (rot8 op (s.busByte .mem (s.regs.ea x d)) s.flags).1] :=
  ⟨s.dec.eaComputed, .inr rfl, by cases op <;> rfl⟩

end

/-- Settles O13: every form runs `rot8` on its operand, and `rot8` is `shifted` with its flags. -/
theorem rotatesAndShiftsComplete : Obligations.RotatesAndShiftsComplete := by
  intro s op r x d hl v ea w res flags cycles
  have rot (u : Byte) : rot8 op u s.flags = (res u, flags u) := rot8_eq op u s.flags
  have reg := runs_rotForms_reg op s r
  have mem := runs_rotForms_mem op s
  have idx := runs_rotForms_idx op s x d
  have idxReg := runs_rotForms_idxReg op s r x d
  simp only [rot] at reg mem idx idxReg
  exact ⟨reg, mem, idx, idxReg⟩

end Sys2Proof.Machine
end

section
/-! PROOFS. DAA makes decimal arithmetic of sums and differences of packed decimal bytes (R187). -/

namespace Sys2Proof.Machine

/-! ### The adjustment -/

/-- DAA adjusts the low digit. -/
def adjustsLow (a : Byte) (f : Flags) : Bool := f.h || decide (9 < a.toNat % 16)

/-- DAA adjusts the high digit, and sets C. -/
def adjustsHigh (a : Byte) (f : Flags) : Bool := f.c || decide (0x99 < a.toNat)

/-- What DAA adds or subtracts. -/
def adjustment (a : Byte) (f : Flags) : Nat := 6 * bit01 (adjustsLow a f) + 96 * bit01 (adjustsHigh a f)

theorem daa8_c (a : Byte) (f : Flags) : (daa8 a f).2.c = adjustsHigh a f := rfl

theorem daa8_fst (a : Byte) (f : Flags) :
    (daa8 a f).1 = if f.n then a - BitVec.ofNat 8 (adjustment a f) else a + BitVec.ofNat 8 (adjustment a f) := by
  have byte (low high : Bool) :
      ((if low then (0x06 : Byte) else 0) ||| (if high then 0x60 else 0)) = BitVec.ofNat 8 (6 * bit01 low + 96 * bit01 high) := by
    cases low <;> cases high <;> rfl
  rw [adjustment, ← byte]
  rfl

theorem toNat_daa8_of_add (a : Byte) {f : Flags} (hn : f.n = false) : (daa8 a f).1.toNat = (a.toNat + adjustment a f) % 256 := by
  simp [daa8_fst, hn]

theorem toNat_daa8_of_sub (a : Byte) {f : Flags} (hn : f.n = true) : ((daa8 a f).1.toNat : Int) = (a.toNat - adjustment a f) % 256 := by
  have hl := bit01_le_one (adjustsLow a f)
  have hh := bit01_le_one (adjustsHigh a f)
  simp only [daa8_fst, adjustment, hn, if_true, BitVec.toNat_sub, BitVec.toNat_ofNat]
  omega

/-! ### Decimal digits -/

theorem bcd_toNat {n : Nat} (h : n < 100) : (bcd n).toNat = 16 * (n / 10) + n % 10 := by
  rw [bcd, BitVec.toNat_ofNat, Nat.mod_eq_of_lt]
  omega

/-- The digits of a packed decimal byte. -/
theorem bcd_digits {n : Nat} (h : n < 100) : ∃ t u, t < 10 ∧ u < 10 ∧ n = 10 * t + u ∧ (bcd n).toNat = 16 * t + u :=
  ⟨n / 10, n % 10, by omega, Nat.mod_lt _ (by decide), by omega, bcd_toNat h⟩

theorem eq_bcd {v : Byte} {n t u : Nat} (ht : t < 10) (hu : u < 10) (hn : n = 10 * t + u) (hv : v.toNat = 16 * t + u) : v = bcd n := by
  apply BitVec.eq_of_toNat_eq
  rw [hv, bcd_toNat (by omega)]
  omega

/-- A sum of two digits in base `k` is a digit and a carry. -/
theorem exists_digit_carry {k x : Nat} (hx : x < 2 * k) : ∃ r < k, x = k * bit01 (decide (k ≤ x)) + r := by
  rcases Nat.lt_or_ge x k with h | h
  · exact ⟨x, h, by simp [bit01, h]⟩
  · exact ⟨x - k, by omega, by simp [bit01, h]⟩

/-- A difference of two digits in base `k` is a digit and a borrow. -/
theorem exists_digit_borrow {k : Nat} {x : Int} (lo : -k ≤ x) (hi : x < k) : ∃ r < k, x = r - k * bit01 (decide (x < 0)) := by
  rcases lt_or_ge x 0 with h | h
  · exact ⟨(x + k).toNat, by omega, by simp [bit01, h]; omega⟩
  · exact ⟨x.toNat, by omega, by simp [bit01, h, not_lt.2 h]⟩

/-! ### DAA after a sum and after a difference -/

/-- After a sum in which the high digits add up to `t` and the low ones to `u`: each digit is adjusted where its decimal sum carries. -/
theorem daa8_of_digitSums {a : Byte} {f : Flags} {t u : Nat} (ht : t < 19) (hu : u < 20) (ha : a.toNat = (16 * t + u) % 256)
    (hf : f.n = false) (hh : f.h = decide (15 < u)) (hc : f.c = decide (255 < 16 * t + u)) :
    (daa8 a f).1 = bcd ((10 * t + u) % 100) ∧ (daa8 a f).2.c = decide (100 ≤ 10 * t + u) := by
  have low : adjustsLow a f = decide (10 ≤ u) := by
    rw [adjustsLow, hh, ha, ← Bool.decide_or, decide_eq_decide]
    omega
  have high : adjustsHigh a f = decide (100 ≤ 10 * t + u) := by
    rw [adjustsHigh, hc, ha, ← Bool.decide_or, decide_eq_decide]
    omega
  have value := toNat_daa8_of_add a hf
  rw [adjustment, low, high, ha] at value
  clear ha hc hh
  obtain ⟨ones, hones, units⟩ := exists_digit_carry (k := 10) (x := u) (by omega)
  obtain ⟨rest, hrest, hundreds⟩ := exists_digit_carry (k := 100) (x := 10 * t + u) (by omega)
  generalize bit01 (decide (10 ≤ u)) = l at *
  generalize bit01 (decide (100 ≤ 10 * t + u)) = h at *
  refine ⟨eq_bcd (t := t + l - 10 * h) (by omega) hones (by omega) ?_, (daa8_c a f).trans high⟩
  rw [value]
  clear value
  omega

/-- After a difference in which the high digits leave `t` and the low ones `u`: each digit is adjusted where its decimal difference borrows. -/
theorem daa8_of_digitDifferences {a : Byte} {f : Flags} {t u : Int} {n : Nat} (ht : -10 < t ∧ t < 10) (hu : -10 ≤ u ∧ u < 10)
    (ha : (a.toNat : Int) = (16 * t + u) % 256) (hf : f.n = true) (hh : f.h = decide (u < 0)) (hc : f.c = decide (16 * t + u < 0))
    (hn : (n : Int) = (10 * t + u) % 100) : (daa8 a f).1 = bcd n ∧ (daa8 a f).2.c = decide (10 * t + u < 0) := by
  have low : adjustsLow a f = decide (u < 0) := by
    rw [adjustsLow, hh, ← Bool.decide_or, decide_eq_decide]
    omega
  have high : adjustsHigh a f = decide (10 * t + u < 0) := by
    have borrow : 16 * t + u < 0 ↔ 10 * t + u < 0 := by omega
    have decimal : 16 * t + u ≤ 0x99 := by omega
    rw [adjustsHigh, hc, ← Bool.decide_or, decide_eq_decide, ← borrow]
    omega
  have value := toNat_daa8_of_sub a hf
  rw [adjustment, low, high, ha] at value
  clear ha hc hh
  obtain ⟨ones, hones, units⟩ := exists_digit_borrow (k := 10) (x := u) hu.1 hu.2
  obtain ⟨rest, hrest, hundreds⟩ := exists_digit_borrow (k := 100) (x := 10 * t + u) (by omega) (by omega)
  generalize bit01 (decide (u < 0)) = l at *
  generalize bit01 (decide (10 * t + u < 0)) = h at *
  refine ⟨eq_bcd (t := (t - l + 10 * h).toNat) (by omega) hones (by omega) ?_, (daa8_c a f).trans high⟩
  zify
  rw [value]
  clear value
  push_cast
  omega

section
variable {m n : Nat} (hm : m < 100) (hn : n < 100) (cin : Bool)
include hm hn

theorem daa8_add8_bcd :
    (daa8 (add8 (bcd m) (bcd n) cin).1 (add8 (bcd m) (bcd n) cin).2).1 = bcd ((m + n + bit01 cin) % 100) ∧
    (daa8 (add8 (bcd m) (bcd n) cin).1 (add8 (bcd m) (bcd n) cin).2).2.c = decide (100 ≤ m + n + bit01 cin) := by
  obtain ⟨mt, mu, hmt, hmu, hm, bm⟩ := bcd_digits hm
  obtain ⟨nt, nu, hnt, hnu, hn, bn⟩ := bcd_digits hn
  have hc := bit01_le_one cin
  have decimal : m + n + bit01 cin = 10 * (mt + nt) + (mu + nu + bit01 cin) := by omega
  rw [decimal]
  apply daa8_of_digitSums (by omega) (by omega) _ rfl
  · rw [add8_h, bm, bn, decide_eq_decide]
    omega
  · rw [add8_c, bm, bn, decide_eq_decide]
    omega
  · rw [add8_toNat, bm, bn]
    congr 1
    ring

theorem daa8_sub8_bcd :
    (daa8 (sub8 (bcd m) (bcd n) cin).1 (sub8 (bcd m) (bcd n) cin).2).1 = bcd ((m + 100 - n + (100 - bit01 cin)) % 100) ∧
    (daa8 (sub8 (bcd m) (bcd n) cin).1 (sub8 (bcd m) (bcd n) cin).2).2.c = decide (m < n + bit01 cin) := by
  obtain ⟨mt, mu, hmt, hmu, hm, bm⟩ := bcd_digits hm
  obtain ⟨nt, nu, hnt, hnu, hn, bn⟩ := bcd_digits hn
  have hc := bit01_le_one cin
  have borrow : decide (m < n + bit01 cin) = decide (10 * ((mt : Int) - nt) + (mu - nu - bit01 cin) < 0) := by
    rw [decide_eq_decide]
    omega
  rw [borrow]
  apply daa8_of_digitDifferences (by omega) (by omega) _ rfl
  · rw [sub8_h, bm, bn, decide_eq_decide]
    omega
  · rw [sub8_c, bm, bn, decide_eq_decide]
    omega
  · omega
  · rw [sub8_toNat, bm, bn]
    congr 1
    push_cast
    ring

end

/-- Settles O41: a binary sum or difference of packed decimal bytes is that of their digits, which DAA adjusts one by one. -/
theorem daaGivesDecimalArithmetic : Obligations.DaaGivesDecimalArithmetic := by
  intro m n cin
  obtain ⟨sum, carry⟩ := daa8_add8_bcd m.isLt n.isLt cin
  obtain ⟨difference, borrow⟩ := daa8_sub8_bcd m.isLt n.isLt cin
  exact ⟨sum, carry, difference, borrow⟩

end Sys2Proof.Machine
end

section
/-! PROOFS. The loads, stores, exchanges, jumps and control instructions (R200 to R212, R218, R219, R240 to R243, R266 to R276, R326 to R340): each
meaning computes to the registers and the bus cycles that its rule names. -/

namespace Sys2Proof.Machine

/-! ### Rules for `Runs` -/

theorem State.onBus_append (s : State) (ev ev2 : List BusEvent) : s.onBus (ev ++ ev2) = (s.onBus ev).onBus ev2 := List.foldl_append

@[simp] theorem State.onBus_regs (s : State) (ev : List BusEvent) : (s.onBus ev).regs = s.regs := by rw [State.onBus_frame]

@[simp] theorem State.onBus_dec (s : State) (ev : List BusEvent) : (s.onBus ev).dec = s.dec := by rw [State.onBus_frame]

/-- A 16-bit read gives the word at its address, after its two cycles (R83). -/
theorem State.read16_eq_onBus {α : Type} (s : State) (a : Word) (k : Word → State → α) :
    s.read16 a k = k (s.word a) (s.onBus (s.wordCycles a)) := rfl

/-- The cycles of an exchange of `w` with the top of the stack (R273). -/
def State.exchangeCycles (s : State) (w : Word) : List BusEvent :=
  s.wordCycles s.regs.sp ++ [.filler 1, .memWrite (s.regs.sp + 1) (hi8 w), .memWrite s.regs.sp (lo8 w), .filler 2]

/-- An exchange gives the word at SP, after its cycles (R273). -/
theorem State.exchangeTop_eq_onBus {α : Type} (s : State) (w : Word) (k : Word → State → α) :
    s.exchangeTop w k = k (s.word s.regs.sp) (s.onBus (s.exchangeCycles w)) := by
  rw [State.exchangeTop, State.read16_eq_onBus, State.exchangeCycles, State.onBus_append, State.onBus_regs]
  rfl

section
variable {i : Instr} {s : State} {r : Regs} {ev : List BusEvent}

theorem Runs.of_exec (h : exec i s = .next { s.onBus ev with regs := r, dec := s.dec }) : Runs i s r ev := ⟨_, .inl rfl, h⟩

/-- An indexed form leaves the decoder state of its address computation (R154). -/
theorem Runs.of_exec_indexed (h : exec i s = .next { s.onBus ev with regs := r, dec := s.dec.eaComputed }) : Runs i s r ev := ⟨_, .inr rfl, h⟩

/-- After bus cycles, which change no register, the registers are written and no flag. -/
theorem Runs.of_onBus {g : Regs → Regs} (h : exec i s = ((s.onBus ev).setRegs (g (s.onBus ev).regs)).done) : Runs i s (g s.regs).plain ev := by
  apply Runs.of_exec
  rw [h, State.onBus_regs, ← State.onBus_dec s ev]
  rfl

theorem Runs.of_read16 {g : Word → Regs → Regs} {a : Word} (h : exec i s = s.read16 a fun v t => (t.setRegs (g v t.regs)).done) :
    Runs i s (g (s.word a) s.regs).plain (s.wordCycles a) := .of_onBus (h.trans (s.read16_eq_onBus a _))

theorem Runs.of_exchangeTop {g : Word → Regs → Regs} {w : Word} (h : exec i s = s.exchangeTop w fun v t => (t.setRegs (g v t.regs)).done) :
    Runs i s (g (s.word s.regs.sp) s.regs).plain (s.exchangeCycles w) := .of_onBus (h.trans (s.exchangeTop_eq_onBus w _))

end

/-! ### The families -/

/-- Settles O1: no bus cycle, and the one effect that each has on the registers; EI sets `skip_int` too. -/
theorem simpleInstructionsComplete : Obligations.SimpleInstructionsComplete := by
  intro s x y z y2 z2 y0
  exact ⟨.of_exec rfl, .of_exec rfl, .of_exec rfl, .of_exec rfl, .of_exec rfl, .of_exec rfl, .of_exec rfl, .of_exec rfl, .of_exec rfl,
    .of_exec rfl, .of_exec rfl, .of_exec rfl, .of_exec rfl, .of_exec rfl, .of_exec rfl, .of_exec rfl, .of_exec rfl, rfl⟩

/-- Settles O2: the register is written after the filler, if there is one; in LD A,I and LD A,R the flags are `ldAirFlags`. -/
theorem registerLoadsComplete : Obligations.RegisterLoadsComplete := by
  intro s x r r2 k k2 hf p n nn flags
  exact ⟨.of_exec rfl, .of_exec rfl, .of_exec rfl, .of_exec rfl, .of_exec rfl, .of_exec rfl, .of_exec rfl, .of_exec rfl, .of_exec rfl,
    .of_exec rfl, .of_exec rfl, .of_exec rfl⟩

/-- Settles O3: a byte form reads once, and a word form goes on from `State.read16`. -/
theorem memoryLoadsComplete : Obligations.MemoryLoadsComplete := by
  intro s x r d q p nn
  exact ⟨.of_exec rfl, .of_exec_indexed rfl, .of_exec rfl, .of_exec rfl,
    .of_read16 (g := fun v g => { g.setHl v with wz := nn + 1 }) rfl,
    .of_read16 (g := fun v g => { g.setXy x v with wz := nn + 1 }) rfl,
    .of_read16 (g := fun v g => { g.setRp p v with wz := nn + 1 }) rfl⟩

/-- Settles O4: the bytes of HL, which `State.write16` takes from the pair, are L and H. -/
theorem memoryStoresComplete : Obligations.MemoryStoresComplete := by
  intro s x r d n q p nn
  have hl : Runs (.ldMemHl nn) s { s.regs.plain with wz := nn + 1 } [.memWrite nn (lo8 s.regs.hl), .memWrite (nn + 1) (hi8 s.regs.hl)] :=
    .of_exec rfl
  rw [Regs.hl, lo8_mk16, hi8_mk16] at hl
  exact ⟨.of_exec rfl, .of_exec_indexed rfl, .of_exec rfl, .of_exec_indexed rfl, .of_exec rfl, .of_exec rfl, hl, .of_exec rfl, .of_exec rfl⟩

/-- Settles O5: the two exchanges with the stack go on from `State.exchangeTop`. -/
theorem exchangesComplete : Obligations.ExchangesComplete := by
  intro s x
  have hl : Runs .exSpHl s { (s.regs.setHl (s.word s.regs.sp)).plain with wz := s.word s.regs.sp } (s.exchangeCycles s.regs.hl) :=
    .of_exchangeTop (g := fun v g => { g.setHl v with wz := v }) rfl
  rw [State.exchangeCycles, Regs.hl, lo8_mk16, hi8_mk16] at hl
  exact ⟨.of_exec rfl, .of_exec rfl, .of_exec rfl, hl, .of_exchangeTop (g := fun v g => { g.setXy x v with wz := v }) rfl⟩

/-- Settles O7: each conditional jump is the `if` of its condition. -/
theorem jumpsComplete : Obligations.JumpsComplete := by
  intro s x e cc jc nn rel
  exact ⟨.of_exec rfl, fun taken => .of_exec (if_pos taken), fun notTaken => .of_exec (if_neg (ne_true_of_eq_false notTaken)),
    fun taken => .of_exec (if_neg taken), fun notTaken => .of_exec ((if_pos notTaken).trans (by rw [notTaken]; rfl)), .of_exec rfl,
    fun taken => .of_exec (if_pos taken), fun notTaken => .of_exec (if_neg (ne_true_of_eq_false notTaken)), .of_exec rfl, .of_exec rfl⟩

end Sys2Proof.Machine
end

section
/-! PROOFS. INC and DEC, the 16-bit additions and subtractions, the accumulator operations, RRD and RLD: results and flags from the operands alone
(R181 to R188, R206, R213 to R217, R220, R229 to R236, R324, R325, R330, R334, R335). -/

namespace Sys2Proof.Machine

/-! ### Results and flags -/

theorem lowNibble_beq (v : Byte) : (lowNibble v == 0xF) = (v &&& 0x0F == 0x0F) ∧ (lowNibble v == 0) = (v &&& 0x0F == 0) := by
  revert v
  decide

theorem inc8_eq (v : Byte) (f : Flags) : inc8 v f = (v + 1, flagsFrom (v + 1) (v &&& 0x0F == 0x0F) (v == 0x7F) false f.c) := by
  rw [inc8, (lowNibble_beq v).1]
  rfl

theorem dec8_eq (v : Byte) (f : Flags) : dec8 v f = (v - 1, flagsFrom (v - 1) (v &&& 0x0F == 0) (v == 0x80) true f.c) := by
  rw [dec8, (lowNibble_beq v).2]
  rfl

theorem add16_fst (a b : Word) (f : Flags) : (add16 a b f).1 = a + b := by simp [add16, BitVec.ofNat_add]

theorem adc16_fst (a b : Word) (cin : Bool) : (adc16 a b cin).1 = a + b + BitVec.ofNat 16 (bit01 cin) := by simp [adc16, BitVec.ofNat_add]

theorem sbc16_fst (a b : Word) (cin : Bool) : (sbc16 a b cin).1 = a - b - BitVec.ofNat 16 (bit01 cin) := by
  simp [sbc16, sub_eq_add_neg, BitVec.ofInt_add, BitVec.ofInt_neg]

theorem rotA_eq (op : RotOp) (a : Byte) (f : Flags) :
    rotA op a f = (shifted op a f.c,
      { f with y := (shifted op a f.c).getLsbD 5, h := false, x := (shifted op a f.c).getLsbD 3, n := false, c := shiftedOut op a }) := by
  rw [rotA, rotShift_eq]

theorem daa8_snd (a : Byte) (f : Flags) : (daa8 a f).2 = flagsFrom (daa8 a f).1
    (if f.n then f.h && decide (a.toNat % 16 < 6) else decide (9 < a.toNat % 16)) (evenOnes (daa8 a f).1) f.n
    (f.c || decide (0x99 < a.toNat)) := by
  rw [← parity_eq_evenOnes]
  rfl

theorem cpl8_eq (a : Byte) (f : Flags) : cpl8 a f = (~~~a, { f with y := !a.getLsbD 5, h := true, x := !a.getLsbD 3, n := true }) := by
  simp [cpl8]

theorem neg8_eq (a : Byte) : neg8 a = (-a, flagsFrom (-a) (a &&& 0x0F != 0) (a == 0x80) true (a != 0)) := by
  revert a
  decide

theorem inFlags_eq (v : Byte) (f : Flags) : inFlags v f = flagsFrom v false (evenOnes v) false f.c := by
  rw [← parity_eq_evenOnes]
  rfl

/-! ### The digits of a byte (R334, R335) -/

theorem append_digits (high low : BitVec 4) : (high ++ low : Byte) = (high.setWidth 8 <<< 4) ||| low.setWidth 8 := by
  rw [BitVec.append_def, BitVec.shiftLeftZeroExtend_eq, BitVec.setWidth'_eq]

theorem highDigit_eq (v : Byte) : (v.extractLsb' 4 4).setWidth 8 <<< 4 = v &&& 0xF0 ∧ (v.extractLsb' 4 4).setWidth 8 = v >>> 4 := by
  revert v
  decide

theorem lowDigit_eq (v : Byte) : (v.extractLsb' 0 4).setWidth 8 <<< 4 = v <<< 4 ∧ (v.extractLsb' 0 4).setWidth 8 = v &&& 0x0F := by
  revert v
  decide

theorem rrdDigits_eq (a m : Byte) : rrdDigits a m = ((a &&& 0xF0) ||| (m &&& 0x0F), (a <<< 4) ||| (m >>> 4)) := by
  rw [rrdDigits, append_digits, append_digits, (highDigit_eq a).1, (lowDigit_eq m).2, (lowDigit_eq a).1, (highDigit_eq m).2]

theorem rldDigits_eq (a m : Byte) : rldDigits a m = ((a &&& (0xF0 : Byte)) ||| (m >>> 4), (m <<< 4) ||| (a &&& 0x0F)) := by
  rw [rldDigits, append_digits, append_digits, (highDigit_eq a).1, (highDigit_eq m).2, (lowDigit_eq m).1, (lowDigit_eq a).2]

/-! ### Rules for an operation with its result and flags -/

section
variable {i : Instr} {s : State} {ev : List BusEvent} {u u2 : Byte} {f : Flags}

/-- The operation `p` gives the result `v`, which `w` writes, and the flags `f`. -/
theorem Runs.of_result {α : Type} {p : α × Flags} {v : α} (w : α → Regs) (hp : p = (v, f))
    (h : exec i s = .next { s.onBus ev with regs := (w p.1).flagged p.2, dec := s.dec }) : Runs i s ((w v).flagged f) ev :=
  .of_exec (by rw [h, hp])

/-- A byte of memory is read, changed by `g` and written back (R192). -/
theorem Runs.of_modifyMem (g : Byte → Flags → Byte × Flags) (h : exec i s = s.modifyMem s.regs.hl g)
    (hg : g (s.busByte .mem s.regs.hl) s.flags = (u, f)) :
    Runs i s (s.regs.flagged f) [.memRead s.regs.hl (s.busByte .mem s.regs.hl), .filler 1, .memWrite s.regs.hl u] := by
  have run : Runs i s (s.regs.flagged (g (s.busByte .mem s.regs.hl) s.flags).2)
      [.memRead s.regs.hl (s.busByte .mem s.regs.hl), .filler 1, .memWrite s.regs.hl (g (s.busByte .mem s.regs.hl) s.flags).1] := .of_exec h
  rwa [hg] at run

theorem Runs.of_modifyIdx (g : Byte → Flags → Byte × Flags) {x : XY} {d : Byte} (h : exec i s = s.indexed x d 5 fun ea t => t.modifyMem ea g)
    (hg : g (s.busByte .mem (s.regs.ea x d)) s.flags = (u, f)) :
    Runs i s ({ s.regs with wz := s.regs.ea x d }.flagged f)
      [.filler 5, .memRead (s.regs.ea x d) (s.busByte .mem (s.regs.ea x d)), .filler 1, .memWrite (s.regs.ea x d) u] := by
  have run : Runs i s ({ s.regs with wz := s.regs.ea x d }.flagged (g (s.busByte .mem (s.regs.ea x d)) s.flags).2)
      [.filler 5, .memRead (s.regs.ea x d) (s.busByte .mem (s.regs.ea x d)), .filler 1,
        .memWrite (s.regs.ea x d) (g (s.busByte .mem (s.regs.ea x d)) s.flags).1] := .of_exec_indexed h
  rwa [hg] at run

/-- `g` makes a new A and a new byte at HL from their digits (R334, R335). -/
theorem Runs.of_rotateDigit (g : Byte → Byte → Byte × Byte) (h : exec i s = s.rotateDigit g)
    (hg : g s.regs.a (s.busByte .mem s.regs.hl) = (u, u2)) :
    Runs i s ({ s.regs with a := u, wz := s.regs.hl + 1 }.flagged (flagsFrom u false (evenOnes u) false s.flags.c))
      [.memRead s.regs.hl (s.busByte .mem s.regs.hl), .filler 4, .memWrite s.regs.hl u2] := by
  have run : Runs i s
      ({ s.regs with a := (g s.regs.a (s.busByte .mem s.regs.hl)).1, wz := s.regs.hl + 1 }.flagged
        (inFlags (g s.regs.a (s.busByte .mem s.regs.hl)).1 s.flags))
      [.memRead s.regs.hl (s.busByte .mem s.regs.hl), .filler 4, .memWrite s.regs.hl (g s.regs.a (s.busByte .mem s.regs.hl)).2] := .of_exec h
  rwa [hg, inFlags_eq] at run

end

/-! ### The families -/

/-- Settles O10: each byte form runs `inc8` or `dec8` on its operand, and these are the sum and the difference with the flags of R181. -/
theorem incrementsComplete : Obligations.IncrementsComplete := by
  intro s r x hf d p v ea w up down
  exact ⟨.of_result (s.regs.setR8 r) (inc8_eq _ s.flags) rfl, .of_result (s.regs.setR8 r) (dec8_eq _ s.flags) rfl,
    .of_result (s.regs.setHalf x hf) (inc8_eq _ s.flags) rfl, .of_result (s.regs.setHalf x hf) (dec8_eq _ s.flags) rfl,
    .of_modifyMem inc8 rfl (inc8_eq v s.flags), .of_modifyMem dec8 rfl (dec8_eq v s.flags),
    .of_modifyIdx inc8 rfl (inc8_eq w s.flags), .of_modifyIdx dec8 rfl (dec8_eq w s.flags),
    .of_exec rfl, .of_exec rfl, .of_exec rfl, .of_exec rfl⟩

/-- Settles O11: the results of `add16`, `adc16` and `sbc16` are the sums and the difference modulo 2^16. -/
theorem wordArithmeticCompletes : Obligations.WordArithmeticCompletes := by
  intro s x p hl xy rp rpx cin
  let writeHl (v : Word) : Regs := { s.regs.setHl v with wz := hl + 1 }
  let writeXy (v : Word) : Regs := { s.regs.setXy x v with wz := xy + 1 }
  exact ⟨.of_result writeHl (Prod.ext (add16_fst hl rp s.flags) rfl) rfl, .of_result writeXy (Prod.ext (add16_fst xy rpx s.flags) rfl) rfl,
    .of_result writeHl (Prod.ext (adc16_fst hl rp cin) rfl) rfl, .of_result writeHl (Prod.ext (sbc16_fst hl rp cin) rfl) rfl⟩

/-- Settles O12: an operation on A writes its result to A, with its flags; SCF and CCF write flags alone. -/
theorem accumulatorOperationsComplete : Obligations.AccumulatorOperationsComplete := by
  intro s y a f hl m right left rotated carried adjust decimal halfCarried source
  let writeA (v : Byte) : Regs := { s.regs with a := v }
  exact ⟨.of_result writeA (rotA_eq .rlc a f) rfl, .of_result writeA (rotA_eq .rrc a f) rfl,
    .of_result writeA (rotA_eq .rl a f) rfl, .of_result writeA (rotA_eq .rr a f) rfl,
    .of_result writeA (p := daa8 a f) (Prod.ext rfl (daa8_snd a f)) rfl, .of_result writeA (cpl8_eq a f) rfl, .of_exec rfl, .of_exec rfl,
    .of_result writeA (neg8_eq a) rfl, .of_rotateDigit rrdDigits rfl (rrdDigits_eq a m), .of_rotateDigit rldDigits rfl (rldDigits_eq a m)⟩

end Sys2Proof.Machine
end

section
/-! PROOFS. The stack moves, the calls and returns, and the single-byte port instructions (R260 to R262, R271, R272, R277 to R280, R320 to R323, R328,
R336): the cycles of the push, of the pop or of the port, and the registers after. -/

namespace Sys2Proof.Machine

/-! ### Rules for a pop, a call, a return and the flags of an input -/

section
variable {i : Instr} {s : State} {r : Regs} {ev : List BusEvent} {v : Byte} {w : Word} {n : Nat}

/-- A pop gives the word at SP, after its two reads, and SP has moved by two before the registers are written (R83). -/
theorem Runs.of_pop {g : Word → Regs → Regs} (h : exec i s = s.pop fun v t => (t.setRegs (g v t.regs)).done) :
    Runs i s (g (s.word s.regs.sp) { s.regs with sp := s.regs.sp + 2 }).plain (s.wordCycles s.regs.sp) :=
  .of_read16 (g := fun v r => g v { r with sp := s.regs.sp + 2 }) h

/-- A filler before a pop does not change the word that the pop gives. -/
theorem Runs.of_fill_pop {g : Word → Regs → Regs} (h : exec i s = (s.fill n).pop fun v t => (t.setRegs (g v t.regs)).done) :
    Runs i s (g (s.word s.regs.sp) { s.regs with sp := s.regs.sp + 2 }).plain (.filler n :: s.wordCycles s.regs.sp) :=
  .of_onBus (g := fun r => g (s.word s.regs.sp) { r with sp := s.regs.sp + 2 }) (h.trans ((s.fill n).read16_eq_onBus s.regs.sp _))

theorem Runs.of_callTo (h : exec i s = (s.callTo w).done) :
    Runs i s { s.regs.plain with sp := s.regs.sp - 2, pc := w, wz := w } (.filler 1 :: pushCycles s.regs.sp s.regs.pc) := .of_exec h

theorem Runs.of_returnFromInterrupt (h : exec i s = s.returnFromInterrupt.done) :
    Runs i s { s.regs.plain with sp := s.regs.sp + 2, pc := s.word s.regs.sp, wz := s.word s.regs.sp, iff1 := s.regs.iff2 }
      (s.wordCycles s.regs.sp) := .of_pop (g := fun v g => { g with pc := v, wz := v, iff1 := g.iff2 }) h

/-- The flags of an input are those of R320. -/
theorem Runs.of_inFlags (h : exec i s = .next { s.onBus ev with regs := r.flagged (inFlags v s.flags), dec := s.dec }) :
    Runs i s (r.flagged (flagsFrom v false (evenOnes v) false s.flags.c)) ev := .of_exec (by rw [h, inFlags_eq])

end

/-! ### The families -/

/-- Settles O15: the port's cycle, then the registers; an input through BC takes the flags of `inFlags`. -/
theorem portInstructionsComplete : Obligations.PortInstructionsComplete := by
  intro s r n bc v an flags
  exact ⟨.of_exec rfl, .of_exec rfl, .of_inFlags (v := v) rfl, .of_inFlags (v := v) rfl, .of_exec rfl, .of_exec rfl⟩

/-- Settles O6: a push computes to its two writes after the filler, and a pop goes on from `State.pop`. -/
theorem stackMovesComplete : Obligations.StackMovesComplete := by
  intro s x p
  exact ⟨.of_exec rfl, .of_exec rfl, .of_pop (g := fun v g => g.setRp2 p v) rfl, .of_pop (g := fun v g => g.setXy x v) rfl⟩

/-- Settles O8: a call is `State.callTo`, and a return pops into PC and WZ; each conditional form is the `if` of its condition. -/
theorem callsAndReturnsComplete : Obligations.CallsAndReturnsComplete := by
  intro s cc nn y down saved back
  exact ⟨.of_callTo rfl, fun taken => .of_callTo (if_pos taken), fun notTaken => .of_exec (if_neg (ne_true_of_eq_false notTaken)),
    .of_callTo rfl, .of_pop (g := fun v g => { g with pc := v, wz := v }) rfl,
    fun taken => .of_fill_pop (g := fun v g => { g with pc := v, wz := v }) (if_pos taken),
    fun notTaken => .of_exec (if_neg (ne_true_of_eq_false notTaken)),
    .of_returnFromInterrupt rfl, .of_returnFromInterrupt rfl⟩

end Sys2Proof.Machine
end

section
/-! PROOFS. BIT, RES and SET (R308 to R312). -/

namespace Sys2Proof.Machine

/-! ### Rules for a byte that is rewritten with no flag (R309 to R311) -/

section
variable {i : Instr} {s : State} {x : XY} {d : Byte} (g : Byte → Byte)

theorem Runs.of_rewriteMem (h : exec i s = s.rewriteMem s.regs.hl g) :
    Runs i s s.regs.plain
      [.memRead s.regs.hl (s.busByte .mem s.regs.hl), .filler 1, .memWrite s.regs.hl (g (s.busByte .mem s.regs.hl))] := .of_exec h

theorem Runs.of_rewriteIdx (h : exec i s = s.indexed x d 2 fun ea t => t.rewriteMem ea g) :
    Runs i s { s.regs with wz := s.regs.ea x d }.plain
      [.filler 2, .memRead (s.regs.ea x d) (s.busByte .mem (s.regs.ea x d)), .filler 1,
        .memWrite (s.regs.ea x d) (g (s.busByte .mem (s.regs.ea x d)))] := .of_exec_indexed h

theorem Runs.of_rewriteIdxReg {r : R8} (h : exec i s = s.rewriteIdxReg x d r g) :
    Runs i s ({ s.regs with wz := s.regs.ea x d }.setR8 r (g (s.busByte .mem (s.regs.ea x d)))).plain
      [.filler 2, .memRead (s.regs.ea x d) (s.busByte .mem (s.regs.ea x d)), .filler 1,
        .memWrite (s.regs.ea x d) (g (s.busByte .mem (s.regs.ea x d)))] := .of_exec_indexed h

end

/-! ### The family -/

/-- Settles O14: BIT reads its operand and ends with `bitFlags`, and RES and SET rewrite theirs with `clearBit` and `assertBit`. -/
theorem bitOperationsComplete : Obligations.BitOperationsComplete := by
  intro s b z r x d f hl v ea w res set tested at_ea cycles
  exact ⟨.of_exec rfl, .of_exec rfl, .of_exec_indexed rfl,
    .of_exec rfl, .of_rewriteMem (clearBit b) rfl, .of_rewriteIdx (clearBit b) rfl, .of_rewriteIdxReg (clearBit b) rfl,
    .of_exec rfl, .of_rewriteMem (assertBit b) rfl, .of_rewriteIdx (assertBit b) rfl, .of_rewriteIdxReg (assertBit b) rfl⟩

end Sys2Proof.Machine
end

section
/-! PROOFS. IFF1 masks INT, and EI defers it by one instruction (R275, R276, R328, R336, R375, R376). -/

namespace Sys2Proof

open Sys2Proof.Machine

/-! ### The interrupt flip-flops after an instruction -/

/-- IFF1 after an instruction, from the flip-flops before: EI sets it, DI clears it, and RETN and RETI restore it from IFF2 (R275, R276, R328,
R336). -/
def Instr.iff1After (i : Instr) (iff1 iff2 : Bool) : Bool :=
  match behindPrefixes i with
  | .ei => true
  | .di => false
  | .retn _ | .reti => iff2
  | _ => iff1

/-- IFF2 after an instruction: EI and DI alone write it (R275, R276). -/
def Instr.iff2After (i : Instr) (iff2 : Bool) : Bool :=
  match behindPrefixes i with
  | .ei => true
  | .di => false
  | _ => iff2

section
variable {i : Instr} (iff1 iff2 : Bool)

theorem Instr.iffsAfter_of_ei (h : behindPrefixes i = .ei) : i.iff1After iff1 iff2 = true ∧ i.iff2After iff2 = true := by
  simp [Instr.iff1After, Instr.iff2After, h]

theorem Instr.iffsAfter_of_di (h : behindPrefixes i = .di) : i.iff1After iff1 iff2 = false ∧ i.iff2After iff2 = false := by
  simp [Instr.iff1After, Instr.iff2After, h]

theorem Instr.iff1After_of_return (h : behindPrefixes i = .reti ∨ ∃ y, behindPrefixes i = .retn y) : i.iff1After iff1 iff2 = iff2 := by
  obtain h | ⟨y, h⟩ := h <;> simp [Instr.iff1After, h]

theorem Instr.iff1After_of_other (hei : behindPrefixes i ≠ .ei) (hdi : behindPrefixes i ≠ .di)
    (hreti : behindPrefixes i ≠ .reti) (hretn : ∀ y, behindPrefixes i ≠ .retn y) : i.iff1After iff1 iff2 = iff1 := by
  unfold Instr.iff1After
  split
  · exact absurd ‹_› hei
  · exact absurd ‹_› hdi
  · exact absurd ‹_› (hretn _)
  · exact absurd ‹_› hreti
  · rfl

end

/-! ### No operand names a flip-flop -/

theorem R8.name_ne_iffs (r : R8) : RegName.iff1 ≠ r.name ∧ RegName.iff2 ≠ r.name := by cases r <;> decide
theorem R8X.name_ne_iffs (r : R8X) (x : XY) : RegName.iff1 ≠ r.name x ∧ RegName.iff2 ≠ r.name x := by cases r <;> cases x <;> decide
theorem XY.name_ne_iffs (x : XY) : RegName.iff1 ≠ x.name ∧ RegName.iff2 ≠ x.name := by cases x <;> decide
theorem RP.iffs_notMem_names (p : RP) : RegName.iff1 ∉ p.names ∧ RegName.iff2 ∉ p.names := by cases p <;> decide
theorem RP2.iffs_notMem_names (p : RP2) : RegName.iff1 ∉ p.names ∧ RegName.iff2 ∉ p.names := by cases p <;> decide

end Sys2Proof

namespace Sys2Proof.Machine

/-! ### What an instruction does to what arbitration looks at -/

section
variable {i : Instr} {s t : State} (h : exec i s = .next t)
include h

theorem exec_keeps_iffs (unwritten : RegName.iff1 ∉ i.writes ∧ RegName.iff2 ∉ i.writes) :
    t.regs.iff1 = s.regs.iff1 ∧ t.regs.iff2 = s.regs.iff2 := by
  have iff1 := registersChangeOnlyWhereStated i s t .iff1 h unwritten.1 nofun
  have iff2 := registersChangeOnlyWhereStated i s t .iff2 h unwritten.2 nofun
  exact ⟨by simpa [Regs.agree] using iff1, by simpa [Regs.agree] using iff2⟩

/-- EI, DI, RETN and RETI write the flip-flops as their rules say; no other instruction names them among what it writes. -/
theorem exec_iffs : t.regs.iff1 = i.iff1After s.regs.iff1 s.regs.iff2 ∧ t.regs.iff2 = i.iff2After s.regs.iff2 := by
  induction i with
  | ignored x i ih =>
    rw [exec_ignored] at h
    exact ih h
  | ei | di | retn | reti =>
    cases h
    exact ⟨rfl, rfl⟩
  | _ =>
    apply exec_keeps_iffs h
    simp [Instr.writes, R8.name_ne_iffs, R8X.name_ne_iffs, XY.name_ne_iffs, RP.iffs_notMem_names, RP2.iffs_notMem_names]

/-- EI alone defers INT (R376). -/
theorem exec_skipInt : t.skipInt = (s.skipInt || decide (behindPrefixes i = .ei)) := by
  by_cases hei : behindPrefixes i = .ei
  · rw [exec_behindPrefixes, hei] at h
    cases h
    simp [hei]
  · obtain ⟨-, -, -, -, -, -, -, -, kept, -⟩ := controlStateUntouched i s t h
    simp [hei, kept hei]

end

/-- Fetching leaves what arbitration looks at: the flip-flops, the latches and the skip flags. -/
theorem State.fetchAll_interrupts (s : State) (cs : List FetchCycle) :
    (s.fetchAll cs).regs.iff1 = s.regs.iff1 ∧ (s.fetchAll cs).regs.iff2 = s.regs.iff2 ∧ (s.fetchAll cs).nmiPending = s.nmiPending ∧
    (s.fetchAll cs).intLatch = s.intLatch ∧ (s.fetchAll cs).skipInt = s.skipInt ∧ (s.fetchAll cs).skipNmi = s.skipNmi := by
  induction cs generalizing s with
  | nil => exact ⟨rfl, rfl, rfl, rfl, rfl, rfl⟩
  | cons c cs ih => cases c <;> exact ih _

/-! ### The boundary that an instruction ends at -/

/-- `u` is what arbitration finds after the instruction `i`, fetched from `s` on (R374): the flip-flops are those after `i`, the latches are as they
were, and EI defers INT. -/
structure BoundaryAfter (i : Instr) (s u : State) : Prop where
  iff1 : u.regs.iff1 = i.iff1After s.regs.iff1 s.regs.iff2
  iff2 : u.regs.iff2 = i.iff2After s.regs.iff2
  nmi : u.acceptsNmi = s.acceptsNmi
  int : u.acceptsInt = (!s.intLatch && i.iff1After s.regs.iff1 s.regs.iff2 && !(s.skipInt || decide (behindPrefixes i = .ei)))

theorem boundaryAfter_of_exec {i : Instr} {s u : State} (h : exec i (s.fetchInstr i) = .next u) : BoundaryAfter i s u := by
  obtain ⟨fiff1, fiff2, fnmi, flatch, fskipInt, fskipNmi⟩ := s.fetchAll_interrupts (s.fetchPlan i)
  obtain ⟨iff1, iff2⟩ := exec_iffs h
  have skipInt := exec_skipInt h
  obtain ⟨-, -, -, -, -, nmi, latch, skipNmi, -⟩ := controlStateUntouched i _ u h
  rw [State.fetchInstr] at iff1 iff2 skipInt nmi latch skipNmi
  rw [fiff1, fiff2] at iff1
  rw [fiff2] at iff2
  refine ⟨iff1, iff2, ?_, ?_⟩
  · rw [State.acceptsNmi, State.acceptsNmi, nmi, fnmi, skipNmi, fskipNmi]
  · rw [State.acceptsInt, latch, flatch, iff1, skipInt, fskipInt]

/-- In a step both skip flags are clear where the instruction begins, and INT is the level of its pin (log entry 14). -/
theorem step_instr_retires {s t : State} {i : Instr} {rest : List Byte} (inv : Inv s) (hmode : s.mode = .running)
    (hreset : s.pins.level.reset = true) (hflight : s.flight = none) (hentry : s.dec.entry = .none) (hhalted : s.regs.halted = false)
    (hdec : s.decodeNext = .ok i rest) (ht : step s = .next t) :
    ∃ u : State, t = u.retire ∧ u.regs.iff1 = i.iff1After s.regs.iff1 s.regs.iff2 ∧ u.regs.iff2 = i.iff2After s.regs.iff2 ∧
      u.acceptsNmi = s.nmiPending ∧
      u.acceptsInt = (!s.pins.level.int && i.iff1After s.regs.iff1 s.regs.iff2 && !decide (behindPrefixes i = .ei)) := by
  rw [stepRunsDecodedInstruction.1 s i rest hmode hreset hflight hentry hhalted hdec] at ht
  obtain ⟨u, hu, retired⟩ := (andThen_next_iff _ _ _).1 ht
  obtain ⟨iff1, iff2, nmi, int⟩ := boundaryAfter_of_exec hu
  obtain ⟨noSkipInt, noSkipNmi⟩ := inv.skips
  refine ⟨u, (Host.Outcome.next.inj retired).symm, iff1, iff2, ?_, ?_⟩
  · simpa [State.acceptsNmi, State.sampleInt, State.openPins, noSkipNmi] using nmi
  · simpa [State.sampleInt, State.openPins, noSkipInt] using int

/-- Where INT is not accepted, retirement keeps the flip-flops: an NMI clears IFF1 in its entry only (R379). -/
theorem State.retire_of_noInt {s : State} (hi : s.acceptsInt = false) :
    s.retire.dec.entry ≠ .int ∧ s.retire.regs.iff1 = s.regs.iff1 ∧ s.retire.regs.iff2 = s.regs.iff2 := by
  cases hn : s.acceptsNmi
  · obtain ⟨regs, entry⟩ := State.retire_of_none hn hi
    simp [regs, entry]
  · obtain ⟨regs, entry⟩ := State.retire_of_nmi hn
    simp [regs, entry]

/-- Settles O49: the step retires at the boundary after `i`, with INT accepted if IFF1 is 1 after `i` and `i` is no EI. -/
theorem intIsMaskedAndDeferred : Obligations.IntIsMaskedAndDeferred := by
  intro s t i rest inv hmode hreset hflight hentry hhalted hdec ht j
  obtain ⟨u, rfl, iff1, iff2, nmi, int⟩ := step_instr_retires inv hmode hreset hflight hentry hhalted hdec ht
  have masked (h : i.iff1After s.regs.iff1 s.regs.iff2 = false ∨ behindPrefixes i = .ei) : u.retire.dec.entry ≠ .int ∧
      u.retire.regs.iff1 = i.iff1After s.regs.iff1 s.regs.iff2 ∧ u.retire.regs.iff2 = i.iff2After s.regs.iff2 := by
    rw [← iff1, ← iff2]
    apply State.retire_of_noInt
    obtain h | h := h <;> simp [int, h]
  have accepted (noNmi : s.nmiPending = false) (low : s.pins.level.int = false) (hei : behindPrefixes i ≠ .ei)
      (enabled : i.iff1After s.regs.iff1 s.regs.iff2 = true) :
      u.retire.dec.entry = .int ∧ u.retire.regs.iff1 = false ∧ u.retire.regs.iff2 = false := by
    have accepts : u.acceptsInt = true := by simp [int, low, enabled, hei]
    obtain ⟨regs, entry⟩ := State.retire_of_int (nmi.trans noNmi) accepts
    simp [regs, entry]
  refine ⟨?_, ?_, ?_, ?_, ?_, ?_⟩
  · intro off hei hreti hretn
    have disabled : i.iff1After s.regs.iff1 s.regs.iff2 = false := by
      by_cases hdi : j = .di
      · exact (Instr.iffsAfter_of_di _ _ hdi).1
      · rw [Instr.iff1After_of_other _ _ hei hdi hreti hretn, off]
    obtain ⟨entry, after1, -⟩ := masked (.inl disabled)
    exact ⟨entry, after1.trans disabled⟩
  · intro hei
    obtain ⟨set1, set2⟩ := Instr.iffsAfter_of_ei s.regs.iff1 s.regs.iff2 hei
    obtain ⟨entry, after1, after2⟩ := masked (.inr hei)
    exact ⟨entry, after1.trans set1, after2.trans set2⟩
  · intro hdi
    obtain ⟨clear1, clear2⟩ := Instr.iffsAfter_of_di s.regs.iff1 s.regs.iff2 hdi
    obtain ⟨entry, after1, after2⟩ := masked (.inl clear1)
    exact ⟨entry, after1.trans clear1, after2.trans clear2⟩
  · intro hret off
    have disabled := (Instr.iff1After_of_return s.regs.iff1 s.regs.iff2 hret).trans off
    obtain ⟨entry, after1, -⟩ := masked (.inl disabled)
    exact ⟨entry, after1.trans disabled⟩
  · intro hret on noNmi low
    have hei : j ≠ .ei := by obtain h | ⟨y, h⟩ := hret <;> simp [h]
    exact (accepted noNmi low hei ((Instr.iff1After_of_return _ _ hret).trans on)).1
  · intro on noNmi low hei hdi hreti hretn
    exact accepted noNmi low hei ((Instr.iff1After_of_other _ _ hei hdi hreti hretn).trans on)

end Sys2Proof.Machine
end

section
/-! PROOFS. The block instructions: one iteration of each (R350 to R366), and LDIR iterated until its block is copied (R350, R353). -/

namespace Sys2Proof.Machine

/-! ### An iteration that ends the instruction, and one that repeats it (R350) -/

/-- The `step` of R350 as a summand of a word. -/
def Dir.offset16 : Dir → Word
  | .up => 1
  | .down => -1

/-- The `step` of R350 as a summand of a byte. -/
def Dir.offset8 : Dir → Byte
  | .up => 1
  | .down => -1

theorem Dir.step16_eq (dir : Dir) (w : Word) : dir.step16 w = w + dir.offset16 := by
  cases dir
  · rfl
  · exact sub_eq_add_neg w 1

theorem Dir.step8_eq (dir : Dir) (v : Byte) : dir.step8 v = v + dir.offset8 := by
  cases dir
  · rfl
  · exact sub_eq_add_neg v 1

/-- The end that every block instruction comes to, once its bus cycles are done. -/
def State.endIteration (s : State) (again writesWz : Bool) (r : Regs) (f : Flags) : Out :=
  (if again then (s.setRegs r).repeatBlock writesWz else s.setRegs r).doneFlags f

/-- The registers after an iteration that repeats: PC is at the ED byte again, and WZ after it in the loads and compares (R350, R353, R357). -/
def Regs.repeating (r : Regs) (writesWz : Bool) : Regs :=
  { r with pc := r.pc - 2, wz := if writesWz then r.pc - 1 else r.wz }

section
variable {s : State} {ev : List BusEvent} {again writesWz : Bool} {r : Regs} {f g : Flags}

theorem Runs.of_lastIteration {i : Instr} (h : exec i s = (s.onBus ev).endIteration again writesWz r f) (last : again = false) :
    Runs i s (r.flagged f) ev := .of_exec (by rw [h, last, ← State.onBus_dec s ev]; rfl)

theorem Runs.of_repeatedIteration {i : Instr} (h : exec i s = (s.onBus ev).endIteration again writesWz r f) (more : again = true) :
    Runs i s ((r.flagged f).repeating writesWz) (ev ++ [.filler 5]) := by
  apply Runs.of_exec
  rw [h, more, State.onBus_append, ← State.onBus_dec s ev, Regs.repeating, ← sub_two_add_one]
  rfl

/-- One operation `op` with its two instructions: `one` ends after an iteration, and `many` repeats where `more` holds (R350). -/
theorem runs_block {one many : Instr} {op : Bool → Out} {more : Bool} (hone : exec one s = op false) (hmany : exec many s = op true)
    (hop : ∀ again, op again = (s.onBus ev).endIteration (again && more) writesWz r f) (hf : f = g) :
    Runs one s (r.flagged g) ev ∧ (more = false → Runs many s (r.flagged g) ev) ∧
      (more = true → Runs many s ((r.flagged g).repeating writesWz) (ev ++ [.filler 5])) := by
  subst hf
  exact ⟨.of_lastIteration (hone.trans (hop false)) rfl, .of_lastIteration (hmany.trans (hop true)),
    .of_repeatedIteration (hmany.trans (hop true))⟩

end

/-! ### The four operations: their bus cycles, registers and flags -/

section
variable (s : State) (dir : Dir) (again : Bool)

theorem State.blockLoad_eq : s.blockLoad dir again =
    (s.onBus [.memRead s.regs.hl (s.busByte .mem s.regs.hl), .memWrite s.regs.de (s.busByte .mem s.regs.hl), .filler 2]).endIteration
      (again && s.regs.bc - 1 != 0) true
      (((s.regs.setHl (s.regs.hl + dir.offset16)).setDe (s.regs.de + dir.offset16)).setBc (s.regs.bc - 1))
      (ldBlockFlags (s.busByte .mem s.regs.hl) s.regs.a (s.regs.bc - 1) s.flags) := by
  simp only [State.blockLoad, Dir.step16_eq]
  rfl

theorem State.blockCompare_eq : s.blockCompare dir again =
    (s.onBus [.memRead s.regs.hl (s.busByte .mem s.regs.hl), .filler 5]).endIteration
      (again && (s.regs.bc - 1 != 0 && s.regs.a != s.busByte .mem s.regs.hl)) true
      { (s.regs.setHl (s.regs.hl + dir.offset16)).setBc (s.regs.bc - 1) with wz := s.regs.wz + dir.offset16 }
      (cpBlockFlags s.regs.a (s.busByte .mem s.regs.hl) (s.regs.bc - 1) s.flags) := by
  simp only [State.blockCompare, Dir.step16_eq, Bool.and_assoc]
  rfl

theorem State.blockIn_eq : s.blockIn dir again =
    (s.onBus [.filler 1, .ioRead s.regs.bc (s.busByte .io s.regs.bc), .memWrite s.regs.hl (s.busByte .io s.regs.bc)]).endIteration
      (again && s.regs.b - 1 != 0) false
      { s.regs.setHl (s.regs.hl + dir.offset16) with b := s.regs.b - 1, wz := s.regs.bc + dir.offset16 }
      (ioBlockFlags (s.regs.b - 1) (s.busByte .io s.regs.bc) ((s.busByte .io s.regs.bc).toNat + (s.regs.c + dir.offset8).toNat)) := by
  simp only [State.blockIn, inputSum, Dir.step16_eq, Dir.step8_eq]
  rfl

theorem State.blockOut_eq : s.blockOut dir again =
    (s.onBus [.filler 1, .memRead s.regs.hl (s.busByte .mem s.regs.hl),
      .ioWrite (mk16 (s.regs.b - 1) s.regs.c) (s.busByte .mem s.regs.hl)]).endIteration
      (again && s.regs.b - 1 != 0) false
      { s.regs.setHl (s.regs.hl + dir.offset16) with b := s.regs.b - 1, wz := mk16 (s.regs.b - 1) s.regs.c + dir.offset16 }
      (ioBlockFlags (s.regs.b - 1) (s.busByte .mem s.regs.hl)
        ((s.busByte .mem s.regs.hl).toNat + (lo8 (s.regs.hl + dir.offset16)).toNat)) := by
  simp only [State.blockOut, Dir.step16_eq]
  rfl

end

/-- `A - v - H` takes the borrow of the low digit off the difference (R355). -/
theorem cpBlockFlags_eq (a v : Byte) (bc : Word) (f : Flags) :
    let borrow := decide (a.toNat % 16 < v.toNat % 16)
    let adjusted := if borrow then a - v - 1 else a - v
    cpBlockFlags a v bc f = { f with
      s := (a - v).msb, z := a - v == 0, y := adjusted.getLsbD 1, h := borrow, x := adjusted.getLsbD 3, pv := bc != 0, n := true } := by
  intro borrow adjusted
  have minus : a - v - BitVec.ofNat 8 (bit01 borrow) = adjusted := by
    simp only [adjusted]
    cases borrow <;> simp [bit01]
  rw [← minus, ← getLsbD_last]
  rfl

theorem ioBlockFlags_eq (b v : Byte) (k : Nat) :
    ioBlockFlags b v k = flagsFrom b (decide (255 < k)) (evenOnes (BitVec.ofNat 8 (k % 8) ^^^ b)) v.msb (decide (255 < k)) := by
  rw [← parity_eq_evenOnes, ← getLsbD_last]
  rfl

/-! ### The families -/

/-- Settles O16: LDI and LDIR, and CPI and CPIR, share one operation, which ends with `State.endIteration`; LDD, LDDR, CPD and CPDR run it downwards. -/
theorem blockLoadsAndComparesComplete : Obligations.BlockLoadsAndComparesComplete := by
  intro s g v bc sum r borrow adjusted copied compared moved seen again copy look
  obtain ⟨ldi, ldirEnds, ldirRepeats⟩ := runs_block (one := .ldi) (many := .ldir) (g := copied) rfl rfl (s.blockLoad_eq .up) rfl
  obtain ⟨ldd, lddrEnds, lddrRepeats⟩ := runs_block (one := .ldd) (many := .lddr) (g := copied) rfl rfl (s.blockLoad_eq .down) rfl
  have flags : cpBlockFlags g.a v bc s.flags = compared := cpBlockFlags_eq _ _ _ _
  obtain ⟨cpi, cpirEnds, cpirRepeats⟩ := runs_block (one := .cpi) (many := .cpir) rfl rfl (s.blockCompare_eq .up) flags
  obtain ⟨cpd, cpdrEnds, cpdrRepeats⟩ := runs_block (one := .cpd) (many := .cpdr) rfl rfl (s.blockCompare_eq .down) flags
  refine ⟨ldi, ldd, cpi, cpd, fun last => ?_, fun more => ?_, fun last => ?_, fun more => ?_⟩
  · have last : (bc != 0) = false := by simpa using last
    exact ⟨ldirEnds last, lddrEnds last⟩
  · have more : (bc != 0) = true := by simpa using more
    exact ⟨ldirRepeats more, lddrRepeats more⟩
  · have last : (bc != 0 && g.a != v) = false := by simpa [or_iff_not_imp_left] using last
    exact ⟨cpirEnds last, cpdrEnds last⟩
  · have more : (bc != 0 && g.a != v) = true := by simpa using more
    exact ⟨cpirRepeats more, cpdrRepeats more⟩

/-- Settles O17: each input and each output is one operation, upwards or downwards, that repeats while the new B is not 0. -/
theorem blockInputsAndOutputsComplete : Obligations.BlockInputsAndOutputsComplete := by
  intro s g b vi vo port flags read sent again inp out
  obtain ⟨ini, inirEnds, inirRepeats⟩ := runs_block (one := .ini) (many := .inir) rfl rfl (s.blockIn_eq .up) (ioBlockFlags_eq _ _ _)
  obtain ⟨ind, indrEnds, indrRepeats⟩ := runs_block (one := .ind) (many := .indr) rfl rfl (s.blockIn_eq .down) (ioBlockFlags_eq _ _ _)
  obtain ⟨outi, otirEnds, otirRepeats⟩ := runs_block (one := .outi) (many := .otir) rfl rfl (s.blockOut_eq .up) (ioBlockFlags_eq _ _ _)
  obtain ⟨outd, otdrEnds, otdrRepeats⟩ := runs_block (one := .outd) (many := .otdr) rfl rfl (s.blockOut_eq .down) (ioBlockFlags_eq _ _ _)
  refine ⟨ini, ind, outi, outd, fun last => ?_, fun more => ?_⟩
  · have last : (b != 0) = false := by simpa using last
    exact ⟨inirEnds last, indrEnds last, otirEnds last, otdrEnds last⟩
  · have more : (b != 0) = true := by simpa using more
    exact ⟨inirRepeats more, indrRepeats more, otirRepeats more, otdrRepeats more⟩

/-! ### LDIR, iterated -/

/-- One iteration of LDIR whose fetch leaves PC at `pc` (R353): once BC is 0 PC stays there, and else it goes back by two. -/
theorem exec_ldir {s : State} (hd : s.dataIn = []) (pc : Word) : ∃ t, exec .ldir (s.setPc pc) = .next t ∧
    t.mem = s.mem.write s.regs.de.toNat (s.mem.read s.regs.hl.toNat) ∧ t.dataIn = [] ∧ t.regs.bc = s.regs.bc - 1 ∧
    t.regs.hl = s.regs.hl + 1 ∧ t.regs.de = s.regs.de + 1 ∧ t.regs.pc = if s.regs.bc - 1 = 0 then pc else pc - 2 := by
  have stored : s.mem.write s.regs.de.toNat ((s.setPc pc).busByte .mem s.regs.hl) =
      s.mem.write s.regs.de.toNat (s.mem.read s.regs.hl.toNat) := congrArg _ (State.busByte_mem _ _ hd)
  have taken : s.dataIn.tail = [] := congrArg List.tail hd
  obtain ⟨-, -, -, -, ends, repeats, -⟩ := blockLoadsAndComparesComplete (s.setPc pc)
  by_cases last : s.regs.bc - 1 = 0
  · obtain ⟨⟨d, -, run⟩, -⟩ := ends last
    exact ⟨_, run, stored, taken, mk16_hi8_lo8 _, mk16_hi8_lo8 _, mk16_hi8_lo8 _, (if_pos last).symm⟩
  · obtain ⟨⟨d, -, run⟩, -⟩ := repeats last
    exact ⟨_, run, stored, taken, mk16_hi8_lo8 _, mk16_hi8_lo8 _, mk16_hi8_lo8 _, (if_neg last).symm⟩

/-- What `n` iterations of LDIR make of `s`, apart from PC: the counter and the pointers have moved by `n`, the `n` bytes from HL on have been
copied, in order, to those from DE on, and the others are as before (R353). -/
structure BlockCopied (n : Nat) (s t : State) : Prop where
  bc : t.regs.bc = s.regs.bc - BitVec.ofNat 16 n
  hl : t.regs.hl = s.regs.hl + BitVec.ofNat 16 n
  de : t.regs.de = s.regs.de + BitVec.ofNat 16 n
  copied : ∀ k, k < n → t.mem.read (s.regs.de + BitVec.ofNat 16 k).toNat = s.mem.read (s.regs.hl + BitVec.ofNat 16 k).toNat
  kept : ∀ a : Word, (∀ k, k < n → a ≠ s.regs.de + BitVec.ofNat 16 k) → t.mem.read a.toNat = s.mem.read a.toNat

/-- Of `n` bytes from HL on and from DE on, no destination byte is a later source byte. -/
def Regs.readsFirst (g : Regs) (n : Nat) : Prop := ∀ j k, k < j → j < n → g.hl + BitVec.ofNat 16 j ≠ g.de + BitVec.ofNat 16 k

theorem add_ofNat_ne_self (w : Word) {k : Nat} (pos : 0 < k) (lt : k < 65536) : w + BitVec.ofNat 16 k ≠ w := by
  intro same
  have zero := congrArg BitVec.toNat (add_eq_left.1 same)
  simp at zero
  omega

theorem blockCopied_zero (s : State) : BlockCopied 0 s s := by constructor <;> simp

/-- The iteration that the fetch of LDIR starts (R26). -/
theorem exists_exec_ldir_blockCopied {s : State} (hm : s.mem.wf = true) (hd : s.dataIn = []) :
    ∃ t, exec .ldir (s.setPc (s.regs.pc + 2)) = .next t ∧ BlockCopied 1 s t ∧ t.dataIn = [] ∧
      t.regs.pc = if s.regs.bc - 1 = 0 then s.regs.pc + 2 else s.regs.pc := by
  obtain ⟨t, run, mem, script, bc, hl, de, pc⟩ := exec_ldir hd (s.regs.pc + 2)
  refine ⟨t, run, ⟨bc, hl, de, fun k hk => ?_, fun a other => ?_⟩, script, pc.trans ?_⟩
  · obtain rfl : k = 0 := by omega
    rw [mem]
    simpa using Memory.read_write_same s.mem s.regs.de.toNat (s.mem.read s.regs.hl.toNat) hm
  · have ne : a ≠ s.regs.de := by simpa using other 0 Nat.one_pos
    rw [mem]
    exact Memory.read_write_other _ _ _ _ fun same => ne (BitVec.eq_of_toNat_eq same)
  · exact congrArg (ite _ _) (add_sub_cancel_right s.regs.pc 2)

section
variable {n : Nat} {s t u : State} (first : BlockCopied 1 s t)
include first

theorem BlockCopied.hl_add (k : Nat) : t.regs.hl + BitVec.ofNat 16 k = s.regs.hl + BitVec.ofNat 16 (k + 1) := by
  rw [first.hl, add_assoc, ← BitVec.ofNat_add, Nat.add_comm]

theorem BlockCopied.de_add (k : Nat) : t.regs.de + BitVec.ofNat 16 k = s.regs.de + BitVec.ofNat 16 (k + 1) := by
  rw [first.de, add_assoc, ← BitVec.ofNat_add, Nat.add_comm]

theorem BlockCopied.readsFirst (apart : s.regs.readsFirst (n + 1)) : t.regs.readsFirst n := by
  intro j k hkj hj
  rw [first.hl_add, first.de_add]
  exact apart (j + 1) (k + 1) (by omega) (by omega)

/-- A copied byte and then a copied block are a longer copied block: no later iteration stores over the first byte, and the first store hits no later
source byte. -/
theorem BlockCopied.cons (rest : BlockCopied n t u) (hn : n < 65536) (apart : s.regs.readsFirst (n + 1)) : BlockCopied (n + 1) s u := by
  constructor
  · rw [rest.bc, first.bc, sub_sub, Nat.add_comm n, BitVec.ofNat_add]
  · rw [rest.hl, first.hl_add]
  · rw [rest.de, first.de_add]
  · rintro (- | k) hk
    · rw [← first.copied 0 Nat.one_pos, rest.kept]
      intro k hk
      rw [first.de_add]
      exact fun same => add_ofNat_ne_self _ k.succ_pos (by omega) (same.symm.trans (add_zero _))
    · rw [← first.de_add, rest.copied k (by omega), first.hl_add, first.kept]
      intro j hj
      exact apart (k + 1) j (by omega) hk
  · intro a other
    rw [rest.kept, first.kept]
    · exact fun k hk => other k (by omega)
    · intro k hk
      rw [first.de_add]
      exact other (k + 1) (by omega)

end

theorem blockRun_succ {i : Instr} {s t : State} (h : exec i (s.setPc (s.regs.pc + 2)) = .next t) (n : Nat) :
    blockRun i (n + 1) s = blockRun i n t := by
  rw [blockRun, h]

/-- BC is 0, so that PC stays after the instruction, in the last of the `n` iterations and in no other. -/
theorem blockRun_ldir {n : Nat} (hn : n ≤ 65536) {s : State} (hm : s.mem.wf = true) (hd : s.dataIn = []) (hbc : s.regs.bc = BitVec.ofNat 16 n)
    (apart : s.regs.readsFirst n) :
    ∃ t, blockRun .ldir n s = some t ∧ BlockCopied n s t ∧ t.regs.pc = if n = 0 then s.regs.pc else s.regs.pc + 2 := by
  induction n generalizing s with
  | zero => exact ⟨s, rfl, blockCopied_zero s, rfl⟩
  | succ n ih =>
    obtain ⟨t, run, first, script, pc⟩ := exists_exec_ldir_blockCopied hm hd
    have left : s.regs.bc - 1 = BitVec.ofNat 16 n := by simp [hbc, BitVec.ofNat_add]
    obtain ⟨u, runRest, rest, pcRest⟩ := ih (by omega) (exec_wf run hm) script (first.bc.trans left) (first.readsFirst apart)
    refine ⟨u, (blockRun_succ run n).trans runRest, first.cons rest (by omega) apart, ?_⟩
    have last : BitVec.ofNat 16 n = 0 ↔ n = 0 := by
      rw [← BitVec.toNat_inj]
      simp
      omega
    rw [pcRest, pc, left, if_congr last rfl rfl, if_neg n.succ_ne_zero]
    by_cases h : n = 0 <;> simp [h]

/-- Settles O42: `blockRun_ldir` copies the block by induction on the number of iterations, each of which is an iteration of O16. -/
theorem ldirCopiesTheBlock : Obligations.LdirCopiesTheBlock := by
  intro s n hm hd pos hn hbc apart
  obtain ⟨t, run, block, pc⟩ := blockRun_ldir hn hm hd hbc apart
  rw [if_neg pos.ne'] at pc
  exact ⟨t, run, by rw [block.bc, hbc, sub_self], block.hl, block.de, pc, block.copied, block.kept⟩

end Sys2Proof.Machine
end

section
/-! PROOFS. The host's other calls (R372, R401, R402). -/

namespace Sys2Proof.Machine

/-- At a boundary, and in Reset, no instruction is under way that an injection could meet (R402). -/
theorem State.notMidInstruction {s : State} (h : s.atBoundary = true ∨ s.mode = .reset) : (s.mode == .running && !s.atBoundary) = false := by
  obtain h | h := h <;> simp [h]

/-- Settles O54: an injection outside of an instruction is refused for its interrupt mode alone, and `intModeOf` has none for 3. -/
theorem hostCallsBehave : Obligations.HostCallsBehave := by
  intro s rf
  refine ⟨rfl, rfl, fun h m hm => ?_, fun h hm => ?_, fun hmode hmid => ?_, fun h => if_pos h⟩
  · have mode : intModeOf rf.intMode = some m := by obtain ⟨hv, rfl⟩ | ⟨hv, rfl⟩ | ⟨hv, rfl⟩ := hm <;> rw [hv] <;> rfl
    simp [State.setRegisters, State.notMidInstruction h, mode, State.setRegs]
  · have mode : intModeOf rf.intMode = none := by rw [hm]; rfl
    simp [State.setRegisters, State.notMidInstruction h, mode]
  · simp [State.setRegisters, hmode, hmid]

end Sys2Proof.Machine
end

section
/-! PROOFS. The NMI and INT entries, and what can stop a step (R370, R379 to R384). -/

namespace Sys2Proof.Machine

/-! ### The INT entry, by its mode (R380 to R384) -/

theorem isRst_iff (v : Byte) : isRst v = true ↔ v &&& 0xC7 = 0xC7 := beq_iff_eq

section
variable {s : State}

/-- `s` after the acknowledge of an INT entry: R counts, and PC stays (R102). -/
def State.acknowledged (s : State) : State :=
  ((s.busTaken .inta s.regs.pc).record (.intAck s.regs.pc (s.busByte .inta s.regs.pc) s.regs.ir)).setRegs
    { s.regs with r := refreshInc s.regs.r }

theorem State.inta_eq {α : Type} (k : Byte → State → α) : s.inta k = k (s.busByte .inta s.regs.pc) s.acknowledged := rfl

@[simp] theorem State.acknowledged_regs : s.acknowledged.regs = { s.regs with r := refreshInc s.regs.r } := rfl

/-- `s` after the cycles that every INT entry begins with: the acknowledge, F(1) and the push of PC (R380). -/
def State.intPushed (s : State) : State := s.acknowledged.pushReturn

@[simp] theorem State.intPushed_regs : s.intPushed.regs = { s.regs with r := refreshInc s.regs.r, sp := s.regs.sp - 2 } := rfl

theorem State.intEntry_of_rst (him : s.regs.im = .im0) (h : isRst (s.busByte .inta s.regs.pc) = true) :
    s.intEntry = .next (s.intPushed.enterHandler ((s.busByte .inta s.regs.pc &&& 0x38).setWidth 16)) := by
  simp [State.intEntry, State.inta_eq, State.intPushed, him, h]

theorem State.intEntry_of_not_rst (him : s.regs.im = .im0) (h : isRst (s.busByte .inta s.regs.pc) = false) :
    s.intEntry = .refused .im0NonRst := by
  simp [State.intEntry, State.inta_eq, him, h]

theorem State.intEntry_of_im1 (him : s.regs.im = .im1) : s.intEntry = .next (s.intPushed.enterHandler mode1Vector) := by
  simp [State.intEntry, State.inta_eq, State.intPushed, him]

/-- In mode 2 the target is the word at `I:v`, read after the push (R384). -/
theorem State.intEntry_of_im2 {a : Word} (him : s.regs.im = .im2) (ha : a = mk16 s.regs.i (s.busByte .inta s.regs.pc)) :
    s.intEntry = .next ((s.intPushed.onBus (s.intPushed.wordCycles a)).enterHandler (s.intPushed.word a)) := by
  simp [State.intEntry, State.inta_eq, State.intPushed, him, State.read16_eq_onBus, ha]

/-- An INT entry pushes PC, reads its target or has it already, and goes there; it is refused in mode 0 alone (R382). -/
theorem State.intEntry_cases :
    (∃ ev target, s.intEntry = .next ((s.intPushed.onBus ev).enterHandler target)) ∨
    (s.intEntry = .refused .im0NonRst ∧ s.regs.im = .im0 ∧ isRst (s.busByte .inta s.regs.pc) = false) := by
  cases him : s.regs.im with
  | im0 =>
    cases h : isRst (s.busByte .inta s.regs.pc)
    · exact .inr ⟨State.intEntry_of_not_rst him h, rfl, rfl⟩
    · exact .inl ⟨[], _, State.intEntry_of_rst him h⟩
  | im1 => exact .inl ⟨[], _, State.intEntry_of_im1 him⟩
  | im2 => exact .inl ⟨_, _, State.intEntry_of_im2 him rfl⟩

/-! ### A transaction, by what its armed cycle begins (R150, R374) -/

theorem State.transact_of_nmi (h : s.dec.entry = .nmi) : s.transact = .next s.nmiEntry.retire := by simp [State.transact, h]

theorem State.transact_of_int (h : s.dec.entry = .int) : s.transact = andThen s.intEntry fun u => .next u.retire := by
  simp [State.transact, h]

theorem State.transact_of_truncated (hentry : s.dec.entry = .none) (hhalted : s.regs.halted = false) (hdec : s.decodeNext = .truncated) :
    s.transact = .next s.fetchPrefix := by
  simp [State.transact, State.instruction, hentry, hhalted, hdec]

end

/-! ### What can stop a step (R370, R382) -/

theorem exec_completes (i : Instr) (s : State) : ∃ t, exec i s = .next t := by
  obtain ⟨_, _, ⟨_, completes⟩, -⟩ := exec_performs i s
  exact ⟨_, completes⟩

section
variable {s : State}

theorem State.transact_completes_of_none (hentry : s.dec.entry = .none) : ∃ t, s.transact = .next t := by
  cases hhalted : s.regs.halted
  · cases hdec : s.decodeNext with
    | ok i rest =>
      obtain ⟨t, ht⟩ := exec_completes i (s.fetchInstr i)
      rw [State.transact_of_decodeNext hentry hhalted hdec, State.runInstr, ht]
      exact ⟨_, rfl⟩
    | truncated => exact ⟨_, State.transact_of_truncated hentry hhalted hdec⟩
  · exact ⟨_, State.transact_of_halted hentry hhalted⟩

theorem State.transact_completes_or_refused : (∃ t, s.transact = .next t) ∨
    (s.transact = .refused .im0NonRst ∧ s.dec.entry = .int ∧ s.regs.im = .im0 ∧ isRst (s.busByte .inta s.regs.pc) = false) := by
  cases hentry : s.dec.entry with
  | none => exact .inl (State.transact_completes_of_none hentry)
  | nmi => exact .inl ⟨_, State.transact_of_nmi hentry⟩
  | int =>
    rw [State.transact_of_int hentry]
    obtain ⟨_, _, h⟩ | ⟨h, him, hv⟩ := s.intEntry_cases
    · exact .inl ⟨_, by rw [h, andThen_next]⟩
    · exact .inr ⟨by rw [h, andThen_refused], rfl, him, hv⟩

theorem step_of_reset (hreset : s.pins.level.reset = false) : step s = .next { s.enterReset with events := [] } := by
  simp [step, State.stepOnce, hreset]

/-- Where the core is not running, the step leaves Reset, and what it then begins is no interrupt entry (R117). -/
theorem step_of_stopped (hreset : s.pins.level.reset = true) (hmode : s.mode ≠ .running) :
    step s = s.leaveReset.rewind.sampleInt.openPins.transact := by
  cases h : s.mode with
  | running => exact absurd h hmode
  | reset | idleToFetch => simp [step, State.stepOnce, State.runStep, hreset, h]

theorem step_of_running_rewind (hreset : s.pins.level.reset = true) (hmode : s.mode = .running) :
    step s = s.rewind.sampleInt.openPins.transact := by
  simp [step, State.stepOnce, State.runStep, hreset, hmode]

end

/-- Settles O26: RESET low enters Reset; a transaction stops only where `intEntry` is refused, and what leaves Reset begins no entry. -/
theorem everyStepCompletes : Obligations.EveryStepCompletes := by
  refine ⟨exec_completes, fun s => ?_⟩
  cases hreset : s.pins.level.reset
  · exact .inl ⟨_, step_of_reset hreset⟩
  · by_cases hmode : s.mode = .running
    · rw [step_of_running_rewind hreset hmode]
      obtain h | ⟨h, hentry, him, hv⟩ := s.rewind.sampleInt.openPins.transact_completes_or_refused
      · exact .inl h
      · refine .inr ⟨h, rfl, hmode, hentry, him, fun hrst => ?_⟩
        exact Bool.false_ne_true (hv.symm.trans ((isRst_iff _).2 hrst))
    · rw [step_of_stopped hreset hmode]
      exact .inl (State.transact_completes_of_none rfl)

/-! ### What an entry leaves on the stack and in the registers (R379, R380) -/

/-- In `t` the return PC of `s` lies on the stack, high byte at the higher address, and every other address reads as in `s` (R83). -/
def State.SavedReturn (s t : State) : Prop :=
  t.mem.read (s.regs.sp - 1).toNat = hi8 s.regs.pc ∧ t.mem.read (s.regs.sp - 2).toNat = lo8 s.regs.pc ∧
  ∀ a : Word, a ≠ s.regs.sp - 1 → a ≠ s.regs.sp - 2 → t.mem.read a.toNat = s.mem.read a.toNat

theorem State.savedReturn_pushReturn {s : State} (h : s.mem.wf = true) : s.SavedReturn s.pushReturn := by
  have first : (s.mem.write (s.regs.sp - 1).toNat (hi8 s.regs.pc)).wf = true := Memory.write_wf _ _ _ h
  have apart {a b : Word} (hne : a ≠ b) : a.toNat ≠ b.toNat := fun same => hne (BitVec.eq_of_toNat_eq same)
  rw [State.SavedReturn, State.pushReturn_mem]
  refine ⟨?_, Memory.read_write_same _ _ _ first, fun a h1 h2 => ?_⟩
  · rw [Memory.read_write_other _ _ _ _ (sub_one_ne_sub_two _), Memory.read_write_same _ _ _ h]
  · rw [Memory.read_write_other _ _ _ _ (apart h2), Memory.read_write_other _ _ _ _ (apart h1)]

/-- Where the core is awake and INT masked, an acceptance has nothing left to clear (R374, R378). -/
theorem State.retire_regs_of_masked {s : State} (awake : s.regs.halted = false) (masked : s.regs.iff1 = false) : s.retire.regs = s.regs := by
  have noInt : s.acceptsInt = false := by simp [State.acceptsInt, masked]
  cases hn : s.acceptsNmi
  · exact (State.retire_of_none hn noInt).1
  · rw [(State.retire_of_nmi hn).1, ← awake]

/-- `s` as its transaction begins: no cycle is recorded, INT is sampled, and the pins show the first cycle (R45, R92). -/
def State.begun (s : State) : State := ({ s with events := [] } : State).sampleInt.openPins

@[simp] theorem State.begun_regs (s : State) : s.begun.regs = s.regs := rfl

theorem step_eq_begun {s : State} (hmode : s.mode = .running) (hreset : s.pins.level.reset = true) (hflight : s.flight = none) :
    step s = s.begun.transact := step_of_running hmode hreset hflight

/-! ### The NMI entry (R379) -/

section
variable {s : State} (awake : s.regs.halted = false)
include awake

theorem State.nmiEntry_regs : s.nmiEntry.regs = { s.regs with
    pc := 0x0066, wz := 0x0066, q := 0, iff1 := false, sp := s.regs.sp - 2, r := refreshInc s.regs.r,
    instr := s.busByte .mem s.regs.pc } := by
  simp [State.nmiEntry, Regs.fetched, awake, nmiVector]

theorem State.nmiEntry_events : s.nmiEntry.events =
    .memWrite (s.regs.sp - 2) (lo8 s.regs.pc) :: .memWrite (s.regs.sp - 1) (hi8 s.regs.pc) :: .filler 1 ::
      .fetch s.regs.pc (s.busByte .mem s.regs.pc) s.regs.ir :: s.events := by
  simp [State.nmiEntry, Regs.fetched, awake]

theorem State.savedReturn_nmiEntry (h : s.mem.wf = true) : s.SavedReturn s.nmiEntry := by
  rw [State.SavedReturn, ← State.nmiFetched_pc awake]
  exact State.savedReturn_pushReturn (s := s.nmiFetched) h

theorem State.retire_nmiEntry_regs : s.nmiEntry.retire.regs = s.nmiEntry.regs := by
  apply State.retire_regs_of_masked <;> simp [State.nmiEntry_regs awake, awake]

end

/-- Settles O50: the step is `nmiEntry`, whose fetch moves PC and whose rule moves it back, and a retirement that leaves the registers. -/
theorem nmiEntryEffect : Obligations.NmiEntryEffect := by
  intro s inv hmode hreset hflight hentry
  have awake : s.begun.regs.halted = false := inv.accepted.1 (by simp [hentry])
  refine ⟨_, (step_eq_begun hmode hreset hflight).trans (State.transact_of_nmi hentry), ?_, ?_, ?_, ?_⟩
  · exact (State.retire_nmiEntry_regs awake).trans (State.nmiEntry_regs awake)
  · rw [State.retire_events, State.nmiEntry_events awake]
    rfl
  · rw [State.tStates_eq, State.retire_events, State.nmiEntry_events awake]
    rfl
  · rw [State.retire_mem]
    exact State.savedReturn_nmiEntry awake inv.memory

/-! ### The INT entry (R380 to R384) -/

/-- The registers after an INT entry to `target` (R380). -/
def Regs.interrupted (g : Regs) (target : Word) : Regs :=
  { g with pc := target, wz := target, q := 0, iff1 := false, iff2 := false, halted := false, sp := g.sp - 2, r := refreshInc g.r }

/-- The cycles that every INT entry begins with (R380). -/
def State.intCycles (s : State) : List BusEvent :=
  [.intAck s.regs.pc (s.busByte .inta s.regs.pc) s.regs.ir, .filler 1, .memWrite (s.regs.sp - 1) (hi8 s.regs.pc),
    .memWrite (s.regs.sp - 2) (lo8 s.regs.pc)]

theorem busTime_reverse (ev : List BusEvent) : busTime ev.reverse = busTime ev := by simp [busTime]

theorem State.wordCycles_of_memory {s : State} (h : s.dataIn = []) (a : Word) :
    s.wordCycles a = [.memRead a (s.mem.read a.toNat), .memRead (a + 1) (s.mem.read (a + 1).toNat)] := by
  simp [State.wordCycles, State.afterRead_eq, State.busByte_mem, h]

section
variable {s : State} (inv : Inv s) (hmode : s.mode = .running) (hreset : s.pins.level.reset = true) (hflight : s.flight = none)
  (hentry : s.dec.entry = .int)
include hmode hreset hflight hentry

theorem step_of_int : step s = andThen s.begun.intEntry fun u => .next u.retire :=
  (step_eq_begun hmode hreset hflight).trans (State.transact_of_int hentry)

include inv

/-- An entry that reads its target in the cycles `ev`, which store nothing. -/
theorem step_of_intEntry {ev : List BusEvent} {target : Word}
    (h : s.begun.intEntry = .next ((s.begun.intPushed.onBus ev).enterHandler target))
    (hev : (s.begun.intPushed.onBus ev).mem = s.begun.intPushed.mem) :
    ∃ t, step s = .next t ∧ t.regs = s.regs.interrupted target ∧ t.events.reverse = s.intCycles ++ ev ∧ t.tStates = 13 + busTime ev ∧
      t.mem = s.begun.intPushed.mem := by
  have awake : s.regs.halted = false := inv.accepted.1 (by simp [hentry])
  obtain ⟨masked, disabled⟩ := inv.accepted.2 hentry
  have events : (s.begun.intPushed.onBus ev).events = ev.reverse ++ s.intCycles.reverse := by rw [State.onBus_frame]; rfl
  have regs : ((s.begun.intPushed.onBus ev).enterHandler target).retire.regs = s.regs.interrupted target := by
    rw [State.retire_regs_of_masked] <;> simp [Regs.interrupted, awake, masked, disabled]
  refine ⟨((s.begun.intPushed.onBus ev).enterHandler target).retire, ?_, regs, ?_, ?_, State.retire_mem.trans hev⟩
  · rw [step_of_int hmode hreset hflight hentry, h, andThen_next]
  · rw [State.retire_events, State.enterHandler_events, events]
    simp
  · rw [State.tStates_eq, State.retire_events, State.enterHandler_events, events, busTime_append, busTime_reverse, busTime_reverse, Nat.add_comm]
    rfl

end

/-- Settles O51: each mode gives its target to `step_of_intEntry`; what mode 2 reads after the push is in the memory that the step leaves. -/
theorem intEntryEffect : Obligations.IntEntryEffect := by
  intro s inv hmode hreset hflight hentry g v saved cycles pushed
  have stored : s.SavedReturn s.begun.intPushed := State.savedReturn_pushReturn (s := s.begun.acknowledged) inv.memory
  have holds {t : State} (same : t.mem = s.begun.intPushed.mem) : pushed t := by
    rw [State.SavedReturn, ← same] at stored
    exact stored
  refine ⟨fun him hv => ?_, fun him hv => ?_, fun him => ?_, fun him hdata => ?_⟩
  · obtain ⟨t, ht, regs, events, time, mem⟩ := step_of_intEntry (ev := []) inv hmode hreset hflight hentry
      (State.intEntry_of_rst him ((isRst_iff v).2 hv)) rfl
    exact ⟨t, ht, regs, events, time, holds mem⟩
  · have refused : s.begun.intEntry = .refused .im0NonRst := State.intEntry_of_not_rst him (Bool.eq_false_iff.2 (hv ∘ (isRst_iff v).1))
    rw [step_of_int hmode hreset hflight hentry, refused, andThen_refused]
  · obtain ⟨t, ht, regs, events, time, mem⟩ := step_of_intEntry (ev := []) inv hmode hreset hflight hentry (State.intEntry_of_im1 him) rfl
    exact ⟨t, ht, regs, events, time, holds mem⟩
  · obtain ⟨t, ht, regs, events, time, mem⟩ := step_of_intEntry inv hmode hreset hflight hentry (State.intEntry_of_im2 him rfl) rfl
    have unscripted : s.begun.intPushed.dataIn = [] := congrArg List.tail hdata
    rw [State.word_of_memory unscripted, ← mem] at regs
    rw [State.wordCycles_of_memory unscripted, ← mem] at events
    exact ⟨t, ht, regs, events, time, holds mem⟩

end Sys2Proof.Machine
end

section
/-! PROOFS. Arbitration at the boundary that a step ends at (R374, R386, R390). -/

namespace Sys2Proof.Machine

/-! ### What arbitration finds at the end of a transaction (R374, R390) -/

/-- The transaction that begins in `b` ends with IFF1 at 1, and it runs neither an interrupt entry nor EI. -/
def State.RanWithIff1 (b : State) : Prop :=
  (b.dec.entry = .none ∧ b.regs.halted = true ∧ b.regs.iff1 = true) ∨
  (b.dec.entry = .none ∧ b.regs.halted = false ∧ ∃ i rest u, b.decodeNext = .ok i rest ∧ behindPrefixes i ≠ .ei ∧
    exec i (b.fetchInstr i) = .next u ∧ u.regs.iff1 = true)

/-- The transaction that begins in `b` retires `u`: the NMI flip-flop is as it was, and INT is accepted if it is low and enabled, EI apart. -/
structure EndsIn (b u : State) : Prop where
  nmi : u.nmiPending = b.nmiPending ∧ u.skipNmi = b.skipNmi
  int : u.acceptsInt = true ↔ b.intLatch = false ∧ b.RanWithIff1
  enabled : u.regs.iff1 = true → b.RanWithIff1 ∨ ∃ i rest, b.decodeNext = .ok i rest ∧ behindPrefixes i = .ei

section
variable {b u : State}

/-- An entry ends with INT masked (R386). -/
theorem endsIn_of_entry (hentry : b.dec.entry ≠ .none) (masked : u.regs.iff1 = false)
    (nmi : u.nmiPending = b.nmiPending ∧ u.skipNmi = b.skipNmi) : EndsIn b u where
  nmi := nmi
  int := by simp [State.acceptsInt, masked, State.RanWithIff1, hentry]
  enabled := by simp [masked]

theorem endsIn_haltedNop (hentry : b.dec.entry = .none) (hhalted : b.regs.halted = true) (noSkip : b.skipInt = false) :
    EndsIn b b.haltedNop := by
  have ran : b.RanWithIff1 ↔ b.haltedNop.regs.iff1 = true := by
    simp [State.RanWithIff1, State.haltedNop_regs hhalted, hentry, hhalted]
  have skipInt : b.haltedNop.skipInt = false := noSkip
  refine ⟨⟨rfl, rfl⟩, ?_, fun on => .inl (ran.2 on)⟩
  rw [ran, State.acceptsInt, skipInt]
  simp [State.haltedNop, State.fetchOpcode]

theorem endsIn_of_exec {i : Instr} {rest : List Byte} (hentry : b.dec.entry = .none) (hhalted : b.regs.halted = false)
    (hdec : b.decodeNext = .ok i rest) (hu : exec i (b.fetchInstr i) = .next u) (noSkip : b.skipInt = false) : EndsIn b u := by
  obtain ⟨-, -, fnmi, flatch, fskipInt, fskipNmi⟩ := b.fetchAll_interrupts (b.fetchPlan i)
  obtain ⟨-, -, -, -, -, nmi, latch, skipNmi, -⟩ := controlStateUntouched i _ u hu
  have skipInt : u.skipInt = decide (behindPrefixes i = .ei) := by
    rw [exec_skipInt hu, State.fetchInstr, fskipInt, noSkip, Bool.false_or]
  have ran : b.RanWithIff1 ↔ behindPrefixes i ≠ .ei ∧ u.regs.iff1 = true := by
    simp [State.RanWithIff1, hentry, hhalted, hdec, hu]
  refine ⟨⟨nmi.trans fnmi, skipNmi.trans fskipNmi⟩, ?_, fun on => ?_⟩
  · rw [ran, State.acceptsInt, latch, State.fetchInstr, flatch, skipInt]
    simp [and_assoc, and_comm]
  · by_cases hei : behindPrefixes i = .ei
    · exact .inr ⟨i, rest, hdec, hei⟩
    · exact .inl (ran.2 ⟨hei, on⟩)

/-- Every transaction ends at a boundary, if the bytes ahead hold an instruction (log entry 9). -/
theorem endsIn_of_transact {t : State} (inv : Inv b)
    (ahead : b.dec.entry = .none → b.regs.halted = false → b.decodeNext ≠ .truncated) (ht : b.transact = .next t) :
    ∃ u, t = u.retire ∧ EndsIn b u := by
  cases hentry : b.dec.entry with
  | nmi =>
    rw [State.transact_of_nmi hentry] at ht
    cases ht
    exact ⟨_, rfl, endsIn_of_entry (by simp [hentry]) (by simp [State.nmiEntry]) (by simp [State.nmiEntry])⟩
  | int =>
    rw [State.transact_of_int hentry] at ht
    obtain ⟨u, hu, retired⟩ := (andThen_next_iff _ _ _).1 ht
    cases retired
    obtain ⟨masked, -⟩ := inv.accepted.2 hentry
    obtain ⟨ev, target, h⟩ | ⟨h, -⟩ := b.intEntry_cases
    · rw [h] at hu
      cases hu
      refine ⟨_, rfl, endsIn_of_entry (by simp [hentry]) ?_ ?_⟩
      · simpa using masked
      · rw [State.onBus_frame]
        exact ⟨rfl, rfl⟩
    · rw [h] at hu
      cases hu
  | none =>
    cases hhalted : b.regs.halted with
    | true =>
      rw [State.transact_of_halted hentry hhalted] at ht
      cases ht
      exact ⟨_, rfl, endsIn_haltedNop hentry hhalted inv.skips.1⟩
    | false =>
      cases hdec : b.decodeNext with
      | truncated => exact absurd hdec (ahead hentry hhalted)
      | ok i rest =>
        rw [State.transact_of_decodeNext hentry hhalted hdec, State.runInstr] at ht
        obtain ⟨u, hu, retired⟩ := (andThen_next_iff _ _ _).1 ht
        cases retired
        exact ⟨u, rfl, endsIn_of_exec hentry hhalted hdec hu inv.skips.1⟩

end

/-! ### What arbitration leaves (R374) -/

/-- `t` is retired from `s`: the decoder state is cleared, the entry that is accepted, if any, is named, and its first cycle is armed: an acknowledge
for INT, and a fetch for all else. -/
structure Arbitrated (s t : State) : Prop where
  dec : t.dec = { Decoder.reset with entry := t.dec.entry }
  isNmi : t.dec.entry = .nmi ↔ s.acceptsNmi = true
  isInt : t.dec.entry = .int ↔ s.acceptsNmi = false ∧ s.acceptsInt = true
  cycle : t.cycle = some (.armed (if t.dec.entry = .int then .intAck else .fetch) s.regs.pc 0 0)
  nmi : t.nmiPending = true → s.nmiPending = true ∧ s.acceptsNmi = false
  iff1 : t.regs.iff1 = true → s.regs.iff1 = true

theorem State.retire_arbitrated (s : State) : Arbitrated s s.retire := by
  have nmi : ({ s with dec := .reset } : State).acceptsNmi = s.acceptsNmi := rfl
  have int : ({ s with dec := .reset } : State).acceptsInt = s.acceptsInt := rfl
  unfold State.retire State.arbitrate
  rw [nmi, int]
  cases hn : s.acceptsNmi
  · cases hi : s.acceptsInt
    · constructor <;> simp [State.arm, State.settlePins, hn, hi]
    · constructor <;> simp [State.arm, State.settlePins, hn, hi]
  · constructor <;> simp [State.arm, State.settlePins, hn]

/-- A transaction begun again finds the NMI flip-flop and the pins of now (log entry 8). -/
theorem State.rewind_latches (s : State) : s.rewind.nmiPending = s.nmiPending ∧ s.rewind.pins = s.pins := by
  unfold State.rewind
  split <;> exact ⟨rfl, rfl⟩

/-- Settles O48: `t` retires a state of which `EndsIn` says what arbitration finds there, and the invariant of `t` says what an acceptance cleared. -/
theorem arbitrationAtEveryBoundary : Obligations.ArbitrationAtEveryBoundary := by
  intro s t inv hmode hreset ahead ht b ranWithIff1
  obtain ⟨noSkipInt, noSkipNmi⟩ := (stepKeepsInvariant s t inv ht).skips
  obtain ⟨awake, masked⟩ := (stepKeepsInvariant s t inv ht).accepted
  have invB : Inv b := (inv.rewind hmode).sampleInt.openPins
  obtain ⟨pending, pins⟩ := s.rewind_latches
  have latch : b.intLatch = s.pins.level.int := congrArg (·.level.int) pins
  obtain ⟨u, rfl, ends⟩ := endsIn_of_transact invB ahead ((step_of_running_rewind hreset hmode).symm.trans ht)
  obtain ⟨dec, isNmi, isInt, cycle, nmi, iff1⟩ := u.retire_arbitrated
  have kept : u.nmiPending = s.nmiPending := ends.nmi.1.trans pending
  have acceptsNmi : u.acceptsNmi = s.nmiPending := by rw [State.acceptsNmi, ends.nmi.2, invB.skips.2, kept, Bool.not_false, Bool.and_true]
  have acceptsInt : u.acceptsInt = true ↔ s.pins.level.int = false ∧ ranWithIff1 := by rw [ends.int, latch]; rfl
  rw [acceptsNmi] at isNmi nmi
  rw [acceptsNmi, acceptsInt] at isInt
  refine ⟨?_, noSkipInt, noSkipNmi, dec, isNmi, isInt, masked, ?_, ?_, awake, _, cycle, rfl, rfl⟩
  · rw [kept] at nmi
    cases hn : u.retire.nmiPending
    · rfl
    · obtain ⟨on, off⟩ := nmi hn
      exact absurd (on.symm.trans off) (by decide)
  · intro entered int
    obtain ⟨-, -, ⟨none, -⟩ | ⟨none, -⟩⟩ := isInt.1 int <;> exact entered none
  · intro none low on
    have noNmi : s.nmiPending = false := by rw [Bool.eq_false_iff, ne_eq, ← isNmi, none]; decide
    obtain ran | ei := ends.enabled (iff1 on)
    · rw [isInt.2 ⟨noNmi, low, ran⟩] at none
      cases none
    · exact ei

end Sys2Proof.Machine
end
